-- ==== Sys2Proof/Word.lean ====
section
/-! DEFINITION. Word types: the bit strings the manual itself treats as bits. -/

namespace Sys2Proof

/-- One byte of a unit, frame, image or rendition. -/
abbrev Byte := BitVec 8

/-- A 16-bit field of a layout (10_formats.md). -/
abbrev Word16 := BitVec 16

/-- A 32-bit field of a layout (10_formats.md); a four-character command code is one, first letter highest. -/
abbrev Word32 := BitVec 32

/-- A 48-bit station address, first byte sent highest (08:R144). -/
abbrev Addr48 := BitVec 48

end Sys2Proof
end

