-- ==== Sys2Proof/Syntax.lean ====
section
/-! DEFINITION. The commands of the P640: one constructor of `Instr` for each row of spec/opcode_table.json, and the
types of their operands. -/

namespace Sys2Proof

/-- The two command paths into the part (09). -/
inductive Channel where
  | host
  | desk
deriving DecidableEq, Repr

/-- The two memory card slots (07). -/
inductive CardSlot where
  | a
  | b
deriving DecidableEq, Repr

/-- The three renditions of a shot (01 section 1.3). -/
inductive Rendition where
  | raw
  | dev
  | prv
deriving DecidableEq, Repr

/-- The three destinations of a duty (R15). -/
inductive Dest where
  | cardA
  | cardB
  | desk
deriving DecidableEq, Repr

/-- The kind of a readout line (02 section 2.1). -/
inductive LineKind where
  | image
  | phase
deriving DecidableEq, Repr

/-- A control cell as it arrives, in the order of its 56 bytes (10 section 10.2): kind byte, tag, code (first letter in
the highest byte), byte 6 (zero in a COMMAND, and ignored there, R183), argument length, continued mark, and the 48
argument bytes. `Cell.fields` and `Cell.data` of Machine/Operands.lean read the arguments. -/
structure Cell where
  kind : Byte
  tag : Byte
  code : Word32
  status : Byte
  argLen : BitVec 7
  continued : Bool
  args : List Byte
deriving DecidableEq, Repr

/-- The addressing of a received tether frame and the padding bytes behind its fixed part and data (10 section 10.3,
R183). -/
structure Envelope where
  dst : Addr48
  src : Addr48
  frameType : Word16
  padding : List Byte
deriving DecidableEq, Repr

/-- A card's report of a block that completed or failed: the slot and the card's number of the block (R132; that the report
names its block is the model's, notes/assumptions/36.md). -/
structure BlockReport where
  slot : CardSlot
  block : Word32
deriving DecidableEq, Repr

/-- The levels of the part's lines and links, true for asserted or up (00 "The part in its camera"). -/
structure Pins where
  focus : Bool
  release : Bool
  lensPresent : Bool
  detectA : Bool
  detectB : Bool
  protectA : Bool
  protectB : Bool
  etherUp : Bool
  hostUp : Bool
deriving DecidableEq, Repr

/-- The commands. Where a row is the execution of a queued cell, its operand is the channel whose oldest cell is
executed; its arguments stand in that cell. `late` marks a lens message that answers a request other than the one last
sent, or an earlier sending of it that has timed out (R76). `block` is the card's number of the block that a card reports
(notes/assumptions/36.md), `frame` the sensor frame counter of the frame whose measurement completes
(notes/assumptions/16.md). -/
inductive Instr where
  -- the whole part
  | powerOn (pins : Pins)
  | partReset
  -- control traffic and execution of queued cells
  | commandCell (ch : Channel) (cell : Cell)
  | malformedHostUnit
  | unknownCode (ch : Channel)
  | idnt (ch : Channel)
  | runm (ch : Channel)
  | stby (ch : Channel)
  | confCaptureFloor (ch : Channel)
  | confSpaceWarningLevel (ch : Channel)
  | confLossInterval (ch : Channel)
  | confStalePeriod (ch : Channel)
  | confDriveTimeout (ch : Channel)
  | confConfidenceThreshold (ch : Channel)
  | confDeadband (ch : Channel)
  | confLossLimit (ch : Channel)
  | confCardMode (ch : Channel)
  | confTetherPower (ch : Channel)
  | confTetherFrameType (ch : Channel)
  | confStationAddress (ch : Channel)
  | confModePreferenceList (ch : Channel)
  | confRenditionRank (ch : Channel)
  | confNegotiationTimeout (ch : Channel)
  | confSilenceTimeout (ch : Channel)
  | confAcknowledgementTimeout (ch : Channel)
  | loadGeometry (ch : Channel)
  | loadProfiles (ch : Channel)
  | loadRouting (ch : Channel)
  | loadSites (ch : Channel)
  | loadRecipe (ch : Channel)
  | loadLensProfiles (ch : Channel)
  | loadAliases (ch : Channel)
  | prst (ch : Channel)
  | trst (ch : Channel)
  | echo (ch : Channel)
  | armc (ch : Channel)
  | dsrm (ch : Channel)
  | fire (ch : Channel)
  | ceas (ch : Channel)
  | ftgt (ch : Channel)
  | srcs (ch : Channel)
  | lprb (ch : Channel)
  | slst (ch : Channel)
  | shot (ch : Channel)
  | blog (ch : Channel)
  | hold (ch : Channel)
  | unhd (ch : Channel)
  | waiv (ch : Channel)
  | prio (ch : Channel)
  | dhld (ch : Channel)
  | dunh (ch : Channel)
  | pull (ch : Channel)
  | rush (ch : Channel)
  | skip (ch : Channel)
  | mirr (ch : Channel)
  | capn (ch : Channel)
  | xtnt (ch : Channel)
  | plrd (ch : Channel)
  | cpwr (ch : Channel)
  | evrd (ch : Channel)
  | evmk (ch : Channel)
  -- the host link
  | hostLinkUp
  | hostLinkDown
  | loadUnit (payload : List Byte)
  | injectUnit (payload : List Byte)
  | liveUnitTaken
  -- the sensor link and the pattern generator
  | frameStart (checkOk : Bool) (counter : Word16)
  | line (lane : Fin 4) (checkOk : Bool) (number : Word16) (kind : LineKind) (samples : List Word16)
  | embedded (checkOk : Bool) (data : List Byte)
  | frameEnd (checkOk : Bool)
  | fillerSequence (lane : Fin 4)
  | lossTimerExpiry (lane : Fin 4)
  | staleTimerExpiry
  | patternTick
  -- the release button
  | releaseLineChange (level : Bool)
  | focusLineChange (level : Bool)
  -- the shot store
  | dutyExpiry (number : Nat) (rend : Rendition)
  -- the lens
  | lensPresentAsserted
  | lensPresentNegated
  | probePhase (nibble : BitVec 4)
  | capabilityReport (late : Bool) (first last : Word16) (classes : BitVec 4) (apertureMin apertureMax : Byte)
  | accept (late : Bool)
  | reject (late : Bool)
  | wait (late : Bool)
  | paramValue (late : Bool) (value : Word16)
  | paramDone (late : Bool)
  | paramRefused (late : Bool)
  | arrived (position : Word16)
  | abortAck (late : Bool) (position : Word16)
  | status (position : Word16) (aperture : Byte)
  | answerTimeout
  | waitTimerExpiry
  | driveTimerExpiry
  | reprobeTimerExpiry
  -- the focus and development engines
  | measurementComplete (frame : Word16)
  | devPageRequest (sizes : List Nat)
  | developmentComplete
  -- the card slots
  | cardDetectAsserted (slot : CardSlot)
  | mountAnswer (slot : CardSlot) (capacity : Option Word32)
  | mountTimeout (slot : CardSlot)
  | cardDetectNegated (slot : CardSlot)
  | writeProtectChange (slot : CardSlot) (level : Bool)
  | overCurrent (slot : CardSlot)
  | blockComplete (report : BlockReport)
  | blockFailed (report : BlockReport)
  | writeTimerExpiry (slot : CardSlot)
  -- the tether
  | ethernetLinkUp
  | ethernetLinkDown
  | offer (env : Envelope) (modes windowLimit : Byte)
  | ack (env : Envelope) (number : Word32) (rend : Byte) (offset : Word32)
  | abort (env : Envelope) (number : Word32) (rend : Byte)
  | control (env : Envelope) (cell : Cell)
  | idle (env : Envelope)
  | malformedTetherFrame (env : Envelope) (body : List Byte)
  | unexpectedTetherFrame (env : Envelope) (body : List Byte)
  | portTakesFrame
  | negotiationTimerExpiry
  | silenceTimerExpiry
  | ackTimerExpiry
deriving DecidableEq, Repr

end Sys2Proof
end

