-- ==== Sys2Proof/Machine/Constants.lean ====
section
/-! DEFINITION. The numbers the manual fixes: sizes, capacities and durations (in microseconds), each with its rule. -/

namespace Sys2Proof.Machine

/-- The largest value of a 32-bit counter, where it stops (R49, R68, R90, R106, R122, R141, R164, R172). -/
def u32Max : Nat := 4294967295

/-- A counter that stops at its largest 32-bit value rises by one. -/
def satInc (n : Nat) : Nat := if n < u32Max then n + 1 else u32Max

/-- A counter that stops at its largest 32-bit value rises by `k` (stray load bytes, R175). -/
def satAdd (n k : Nat) : Nat := min (n + k) u32Max

/-- A 16-bit count that stays at 65,535 once there (missed counts R67, burst index R61). -/
def satInc16 (n : Nat) : Nat := if n < 65535 then n + 1 else 65535

/-- A 32-bit number that becomes 1 after its largest value (shot number R7, live sequence number R44). -/
def wrapInc32 (n : Nat) : Nat := if n < u32Max then n + 1 else 1

/-- A 16-bit number that becomes 1 after its largest value (burst number R67, recipe generation R109). -/
def wrapInc16 (n : Nat) : Nat := if n < 65535 then n + 1 else 1

/-- The number of units of `k` that hold `n`, rounded up. -/
def unitsFor (k n : Nat) : Nat := n / k + (if n % k == 0 then 0 else 1)

/-- Bytes in a page, 1 MiB (01 section 1.1). -/
def pageBytes : Nat := 1048576

/-- First page of the pool (R2). -/
def poolFirst : Nat := 64

/-- Pages of the pool (R1). -/
def poolCount : Nat := 4032

/-- Slots of the shot table (01 section 1.2). -/
def shotSlots : Nat := 128

/-- Most pages in a page list (R12). -/
def maxPages : Nat := 96

/-- Most shots with a desk hold (R23). -/
def maxDeskHolds : Nat := 16

/-- Most bytes in a shot's extension chain (R28). -/
def maxChainBytes : Nat := 1024

/-- Bytes of the readout block (R40) and of the development block (R115). -/
def readoutBlockBytes : Nat := 512
def devBlockBytes : Nat := 256

/-- Most cells in a channel's input queue (R167). -/
def inputQueueCells : Nat := 8

/-- Most argument bytes of a cell (09 section 9.1). -/
def cellArgBytes : Nat := 48

/-- Bytes of the load buffer (R175). -/
def loadBufferBytes : Nat := 65536

/-- Most payload bytes of a LIVE unit (R45). -/
def liveUnitBytes : Nat := 65536

/-- Data bytes of a tether block or mirror fragment (R153, R161). -/
def blockBytes : Nat := 1408

/-- Bytes of a card block (07 section 7.1). -/
def cardBlockBytes : Nat := 65536

/-- Most runs of a write plan (R131), extents of a list (R128), records of a log and of a log that still lets a
write start (R137). -/
def maxRuns : Nat := 8
def maxExtents : Nat := 64
def maxLogRecords : Nat := 32
def stallLogRecords : Nat := 30

/-- Records of the burst log (R67). -/
def burstLogRecords : Nat := 8

/-- The level of this part (00 Scope, R73). -/
def partLevel : Nat := 2

/-- Minutes, seconds and milliseconds in the part's microseconds. -/
def minuteUs : Nat := 60000000
def secondUs : Nat := 1000000
def milliUs : Nat := 1000

/-- Settle time of a probe phase (R71). -/
def settleUs : Nat := 20

/-- Lens answer timeout (R76), wait timer (R79), re-probe timer (R88). -/
def lensAnswerUs : Nat := 100000
def lensWaitUs : Nat := 50000
def reprobeUs : Nat := 200000

/-- Mount answer time (R124) and write timer (R132). -/
def mountUs : Nat := 1000000
def writeTimerUs : Nat := 1000000

/-- Unit of the lane loss interval (R32) and of the stale period (R38). -/
def lossUnitUs : Nat := 4
def staleUnitUs : Nat := 50

/-- The broadcast address FF-FF-FF-FF-FF-FF (R143). -/
def broadcast : Addr48 := 0xFFFFFFFFFFFF

end Sys2Proof.Machine
end

