-- ==== Sys2Proof/Machine/State.lean ====
section
/-! DEFINITION. The state of the P640 as plain data, block by block, and the state after reset. -/

namespace Sys2Proof.Machine

/-- No command stops the part with a fault: the manual gives every error an answer, a counter, an event or a state
change (notes/assumptions/29.md). A closed inductive with no constructor: nothing raises it. -/
inductive Fault where
deriving DecidableEq, Repr

/-- Why a command has no meaning. -/
inductive Refusal where
  /-- Raised only by an arm of `exec` for a command not modelled yet; there is none. Safe. -/
  | notModelled (mnemonic : String)
deriving DecidableEq, Repr

/-- A running timer holds the microseconds that remain; a stopped one is none. -/
abbrev Timer := Option Nat

/-! ## Shot store (01) -/

/-- State of a shot (R8). -/
inductive ShotState where
  | exposing
  | held
  | opened
  | settled
deriving DecidableEq, Repr

/-- State of a rendition (R11). -/
inductive RendState where
  | absent
  | pending
  | filling
  | ready
  | released
deriving DecidableEq, Repr

/-- State of a duty (R15). -/
inductive DutyState where
  | owed
  | active
  | met
  | failed
  | waived
deriving DecidableEq, Repr

/-- Reason of a FAILED or WAIVED duty (R15). -/
inductive Reason where
  | cardFault
  | redirected
  | damaged
  | deskDeclined
  | skipped
  | expired
  | byHost
deriving DecidableEq, Repr

/-- Damaged policy of a class entry (R19). -/
inductive DamagedPolicy where
  | all
  | noDesk
  | discard
deriving DecidableEq, Repr

/-- Readout source (02 section 2.6). -/
inductive Source where
  | sensor
  | pattern
  | inject
deriving DecidableEq, Repr

/-- Close kind of a frame (R37). -/
inductive CloseKind where
  | normal
  | nextStart
  | stale
  | source
deriving DecidableEq, Repr

/-- Focus state (05 section 5.4). -/
inductive FocusState where
  | off
  | idle
  | seeking
  | locked
  | tracking
  | lost
deriving DecidableEq, Repr

/-- Lens snapshot of a shot (R77). -/
structure LensSnapshot where
  sensed : Option Nat
  profile : Option Nat
  position : Option Nat
  moving : Bool
  aperture : Nat
deriving DecidableEq, Repr

/-- Focus record of a shot (R105). -/
structure FocusRecord where
  state : FocusState
  measuredFrame : Option Nat
  inBand : Bool
  error : Option Int
  position : Option Nat
  sites : List Nat
  centroid : Option (Nat × Nat)
deriving DecidableEq, Repr

/-- The readout block of RAW (R42; layout 10 section 10.4). -/
structure ReadoutBlock where
  counter : Nat
  source : Source
  close : CloseKind
  laneCount : Nat
  depth : Nat
  runCoding : Bool
  truncated : Bool
  lines : Nat
  samples : Nat
  fill : Nat
  filledCount : Nat
  firstFilled : Option Nat
  lastStored : Option Nat
  rejRange : Nat
  rejOrder : Nat
  rejIncomplete : Nat
  embedded : List Byte
deriving DecidableEq, Repr

/-- The development block of DEV and PRV (R115; layout 10 section 10.4). -/
structure DevBlock where
  slot : Nat
  substituted : Bool
  shadingApplied : Bool
  shadingMissing : Bool
  half : Bool
  subject : Bool
  generation : Nat
  qualityAsked : Nat
  qualityUsed : Nat
  width : Nat
  height : Nat
  cropLeft : Nat
  cropTop : Nat
  cropWidth : Nat
  cropHeight : Nat
deriving DecidableEq, Repr

/-- A recipe (06 section 6.1). The matrix holds nine coefficients row by row. -/
structure Recipe where
  tone : List (Nat × Nat)
  matrix : List Int
  gains : List Nat
  sharpen : Nat
  quality : Nat
  half : Bool
  longEdge : Nat
  subject : Bool
  shading : Bool
deriving DecidableEq, Repr

/-- What an output was developed from, as it stood at completion: the readout block and byte stream of RAW (R115), the
working snapshot's SHADING grid (R114) and its recipe (R111). -/
structure DevSource where
  readout : Option ReadoutBlock
  raw : List Byte
  grid : Option (List Nat)
  recipe : Recipe
deriving DecidableEq, Repr

/-- What the pages of a rendition hold: the RAW byte stream behind the readout block (R40), or a development block
and the encoded image of one output, held as what it was developed from and the output's serial number (its bytes are
free values, notes/assumptions/11.md). -/
inductive Content where
  | none
  | raw (bytes : List Byte)
  | encoded (block : DevBlock) (source : DevSource) (serial : Nat)
deriving DecidableEq, Repr

/-- One rendition of a shot: state, ordered page list, byte length, reader count (R11 to R13) and contents. -/
structure Rend where
  state : RendState
  pages : List Nat
  length : Nat
  readers : Nat
  content : Content
deriving DecidableEq, Repr

/-- One duty record (R15). -/
structure Duty where
  dest : Dest
  rend : Rendition
  state : DutyState
  reason : Option Reason
  created : Nat
  expiry : Option Nat
deriving DecidableEq, Repr

/-- One entry of an extension chain: identifier and data (10 section 10.6); its length is 4 plus the data length. -/
structure ExtEntry where
  ident : Nat
  data : List Byte
deriving DecidableEq, Repr

/-- One shot record (01 section 1.2). -/
structure Shot where
  slot : Nat
  number : Option Nat
  burst : Option (Nat × Nat)
  state : ShotState
  provisional : Bool
  captureTime : Nat
  profile : Nat
  cls : Nat
  recipeSlot : Nat
  recipeGen : Nat
  reservation : List Nat
  lens : Option LensSnapshot
  focus : Option FocusRecord
  damaged : Bool
  filled : Nat
  firstFilled : Option Nat
  truncated : Bool
  substituted : Bool
  shadingMissing : Bool
  raw : Rend
  dev : Rend
  prv : Rend
  duties : List Duty
  hostHold : Bool
  deskHold : Bool
  priority : Nat
  chain : List ExtEntry
  readout : Option ReadoutBlock
deriving DecidableEq, Repr

/-- A set of renditions. -/
structure RendSet where
  raw : Bool
  dev : Bool
  prv : Bool
deriving DecidableEq, Repr

/-- One class entry of the routing table (R16); the lifetime is in minutes, 0 for none. -/
structure ClassEntry where
  cardA : RendSet
  cardB : RendSet
  desk : RendSet
  policy : DamagedPolicy
  lifetime : Nat
deriving DecidableEq, Repr

/-- The shot store. `shots` holds the slots that are not FREE, in slot order. -/
structure Store where
  free : List Nat
  shots : List Shot
  routing : Option (List ClassEntry)
  nextNumber : Nat
  floor : Nat
  warnLevel : Nat
  low : Bool
deriving DecidableEq, Repr

/-! ## Sensor intake (02) -/

/-- The geometry table (02 section 2.2). -/
structure Geometry where
  laneCount : Nat
  lines : Nat
  samples : Nat
  depth : Nat
  fill : Nat
  runCoding : Bool
  phaseLines : List Nat
deriving DecidableEq, Repr

/-- Pattern kind (R46). -/
inductive PatternKind where
  | ramp
  | bars
  | flat
deriving DecidableEq, Repr

/-- One lane: LOCKED or not, LOCKED since the open frame's FRAME_START (usable, R31), loss timer (R32). -/
structure Lane where
  locked : Bool
  usable : Bool
  timer : Timer
deriving DecidableEq, Repr

/-- One valid LINE part that has arrived and has not been taken as part of a line (R31). -/
structure LinePart where
  lane : Nat
  number : Nat
  kind : LineKind
  samples : List Nat
deriving DecidableEq, Repr

/-- The open frame of the assembler (02 section 2.3), with the geometry and source it opened with, its current shot
and the packer's marks for it (R42, R43), the live-view buffer it is reduced into (R45), the number of its fill
lines, its accepted phase lines, each as phase index and samples, and the image lines the reducer has taken, received
lines and fill lines in line order (R44). -/
structure OpenFrame where
  counter : Nat
  lastImage : Option Nat
  lastPhase : Option Nat
  embedded : List Byte
  rejRange : Nat
  rejOrder : Nat
  rejIncomplete : Nat
  staleTimer : Timer
  geometry : Geometry
  source : Source
  shot : Option Nat
  truncated : Bool
  lastStored : Option Nat
  liveBuffer : Option Nat
  fills : Nat
  phases : List (Nat × List Nat)
  reduced : List (List Nat)
deriving DecidableEq, Repr

/-- State of a live-view buffer (02 section 2.5). -/
inductive BufferState where
  | free
  | filling
  | waiting
  | sending
deriving DecidableEq, Repr

/-- What the pixels of a live frame are made of (R44): the reduction factor, the pixels in a row, the sample depth, and the
samples of the image lines that fill whole blocks. -/
structure LiveImage where
  factor : Nat
  width : Nat
  depth : Nat
  lines : List (List Nat)
deriving DecidableEq, Repr

/-- A completed live frame (R44) and how much of it the host link has taken (R45). -/
structure LiveFrame where
  sequence : Nat
  counter : Nat
  damaged : Bool
  number : Option Nat
  image : LiveImage
  height : Nat
  total : Nat
  sent : Nat
deriving DecidableEq, Repr

/-- A live-view buffer; it holds a live frame while WAITING or SENDING. -/
structure LiveBuffer where
  state : BufferState
  frame : Option LiveFrame
deriving DecidableEq, Repr

/-- Lifetime counters of the intake (R49). -/
structure IntakeCounters where
  opened : Nat
  abnormal : Nat
  checkFail : List Nat
  rejRange : Nat
  rejOrder : Nat
  rejIncomplete : Nat
  outside : Nat
  stray : Nat
  fills : Nat
  truncated : Nat
  liveDropped : Nat
  injectDiscarded : Nat
  injectMalformed : Nat
deriving DecidableEq, Repr

/-- The sensor intake. `waitingGeometry` is a table installed while a frame is open under the old one (R33). -/
structure Intake where
  geometry : Option Geometry
  waitingGeometry : Option Geometry
  source : Source
  patternKind : PatternKind
  flat : Nat
  interval : Nat
  patternCounter : Nat
  patternTimer : Timer
  lanes : List Lane
  lossInterval : Nat
  stalePeriod : Nat
  parts : List LinePart
  frame : Option OpenFrame
  buffer0 : LiveBuffer
  buffer1 : LiveBuffer
  nextLive : Nat
  counters : IntakeCounters
deriving DecidableEq, Repr

/-! ## Capture control (03) -/

/-- Focus mode of a profile (03 section 3.1). -/
inductive FocusMode where
  | single
  | continuous
  | manual
deriving DecidableEq, Repr

/-- Release mode of a profile (03 section 3.1). -/
inductive ReleaseMode where
  | focusPriority
  | releasePriority
deriving DecidableEq, Repr

/-- One capture profile (03 section 3.1). -/
structure Profile where
  interval : Nat
  limit : Nat
  depth : Nat
  reserve : Nat
  cls : Nat
  recipe : Nat
  focusMode : FocusMode
  releaseMode : ReleaseMode
deriving DecidableEq, Repr

/-- Capture state (03 section 3.3). -/
inductive CaptureState where
  | disarmed
  | armed
  | gathering
  | awaitingFocus
  | firing
  | stalled
  | spent
deriving DecidableEq, Repr

/-- End reason of a burst (R67). -/
inductive BurstEnd where
  | released
  | limit
  | disarmed
deriving DecidableEq, Repr

/-- One burst record (R67). -/
structure BurstRecord where
  number : Nat
  profile : Nat
  start : Nat
  first : Option Nat
  pre : Nat
  post : Nat
  missedSpace : Nat
  missedSlot : Nat
  missedFocus : Nat
  ended : Option BurstEnd
deriving DecidableEq, Repr

/-- Capture control. `ring` holds the slots of the HELD shots, oldest first, and `ringExposing` the exposing shot of
the ring; `burstFrames` counts the frames of the open burst (R59) and `burstIndex` is the last index given (R61). The
open burst's record is the newest of `log`, with no end reason. -/
structure Capture where
  profiles : List (Option Profile)
  armed : Option Nat
  state : CaptureState
  fireLatch : Bool
  ring : List Nat
  ringExposing : Option Nat
  burstFrames : Nat
  burstIndex : Nat
  log : List BurstRecord
  nextBurst : Nat
  skips : Nat
  discards : Nat
deriving DecidableEq, Repr

/-! ## Lens controller (04) -/

/-- Lens state (04 section 4.6). -/
inductive LensState where
  | absent
  | probing
  | identified
  | negotiating
  | ready
  | driving
  | nodrive
  | fault
deriving DecidableEq, Repr

/-- One record of the lens profile table (R73); the chain's entries are read by R74. -/
structure LensProfile where
  ident : Nat
  revision : Nat
  level : Nat
  first : Nat
  last : Nat
  factor : Nat
  classes : BitVec 4
  chain : List ExtEntry
deriving DecidableEq, Repr

/-- A capability report (04 section 4.4). -/
structure CapabilityReport where
  first : Nat
  last : Nat
  classes : BitVec 4
  apertureMin : Nat
  apertureMax : Nat
deriving DecidableEq, Repr

/-- The contract record (R79). -/
structure Contract where
  cls : Nat
  first : Nat
  last : Nat
deriving DecidableEq, Repr

/-- What the part sends on the serial exchange (04 section 4.4). -/
inductive LensRequest where
  | capabilityQuery
  | offer (cls first last : Nat)
  | paramRead (index : Nat)
  | paramWrite (index value : Nat)
  | drive (target cls : Nat)
  | abort
deriving DecidableEq, Repr

/-- Counters of the lens controller (R90). -/
structure LensCounters where
  timeouts : Nat
  unexpected : Nat
  drives : Nat
  aborts : Nat
  clamped : Nat
  probes : Nat
deriving DecidableEq, Repr

/-- The lens controller. `outstanding` is the request that waits for its answer under the answer timeout (R76), an
ABORT in DRIVING among them (R83); `setupDone` counts the setup entries done (R80); `lastSent` is the message last sent
to the lens. -/
structure Lens where
  state : LensState
  sensed : Option Nat
  profileId : Option Nat
  profile : Option LensProfile
  report : Option CapabilityReport
  contract : Option Contract
  inFlight : Option Nat
  queued : Option Nat
  position : Option Nat
  aperture : Nat
  faultCount : Nat
  select : BitVec 2
  phase : Nat
  nibbles : Nat
  outstanding : Option LensRequest
  misses : Nat
  waits : Nat
  offered : Nat
  setupDone : Nat
  settleTimer : Timer
  answerTimer : Timer
  waitTimer : Timer
  driveTimer : Timer
  reprobeTimer : Timer
  driveTimeout : Nat
  aliases : List (Nat × Nat)
  profiles : List LensProfile
  lastSent : Option LensRequest
  counters : LensCounters
deriving DecidableEq, Repr

/-! ## Focus engine (05) -/

/-- One record of the focus site table (05 section 5.1). -/
structure Site where
  number : Nat
  phaseIndex : Nat
  column : Nat
  width : Nat
  weight : Nat
  group : Nat
deriving DecidableEq, Repr

/-- One entry of the measurement set (R93), valid or not under the threshold in force at the measurement (R94). -/
structure SiteReading where
  site : Nat
  disparity : Int
  confidence : Nat
  valid : Bool
deriving DecidableEq, Repr

/-- A closed frame whose measurement has not completed (R93): its counter, its accepted phase lines, the phase line
list and samples per line in force, and the site table at its close (R92). -/
structure AwaitedMeasurement where
  counter : Nat
  phases : List (Nat × List Nat)
  phaseLines : List Nat
  samples : Nat
  sites : List Site
deriving DecidableEq, Repr

/-- Source of the target (R95). -/
inductive TargetSource where
  | default
  | host
deriving DecidableEq, Repr

/-- Counters of the focus engine (R106). -/
structure FocusCounters where
  measurements : Nat
  handovers : Nat
  requests : Nat
  refused : Nat
  unplanned : Nat
deriving DecidableEq, Repr

/-- The focus engine. `armed`, `mode` and `demand` are capture control's last report (R53). -/
structure Focus where
  sites : List Site
  awaited : List AwaitedMeasurement
  set : List SiteReading
  measuredFrame : Option Nat
  measuredPosition : Option Nat
  target : List Nat
  targetSource : TargetSource
  error : Option Int
  inBand : Bool
  inFocus : List Nat
  centroid : Option (Nat × Nat)
  history : List Nat
  velocity : Int
  predicted : Option Nat
  miss : Nat
  seek : Nat
  run : Nat
  state : FocusState
  threshold : Nat
  deadband : Nat
  lossLimit : Nat
  sentTarget : Option Nat
  queuedTarget : Option Nat
  armed : Bool
  mode : Option FocusMode
  demand : Bool
  counters : FocusCounters
deriving DecidableEq, Repr

/-! ## Development engine (06) -/

/-- One slot of the recipe bank (R109): current generation number (0 when empty) and recipe, and a previous one. -/
structure RecipeSlot where
  generation : Nat
  current : Option Recipe
  previous : Option (Nat × Recipe)
deriving DecidableEq, Repr

/-- Development engine state (06 section 6.3). -/
inductive DevState where
  | idle
  | developing
  | waitSpace
deriving DecidableEq, Repr

/-- The size and quality settled for one output before its first page (R117). -/
structure OutputSize where
  rend : Rendition
  quality : Nat
  length : Nat
deriving DecidableEq, Repr

/-- The working snapshot of a development (R111 to R120). -/
structure Work where
  slot : Nat
  outputs : List Rendition
  recipe : Recipe
  generation : Nat
  substituted : Bool
  shading : Option (List Nat)
  shadingMissing : Bool
  requeue : Bool
  sizes : List OutputSize
deriving DecidableEq, Repr

/-- Counters of the development engine (R122). -/
structure DevCounters where
  completed : Nat
  abandoned : Nat
  spaceWaits : Nat
  reduced : Nat
  substitutions : Nat
deriving DecidableEq, Repr

/-- The development engine. `queue` holds the table slots of the queued shots in queue order; `serial` is the MODEL's
own count of encoded outputs, to which the free value of their bytes is applied (notes/assumptions/11.md). -/
structure DevEngine where
  bank : List RecipeSlot
  queue : List Nat
  state : DevState
  work : Option Work
  serial : Nat
  counters : DevCounters
deriving DecidableEq, Repr

/-! ## Recording engine (07) -/

/-- Slot state (07 section 7.1). -/
inductive CardState where
  | empty
  | mounting
  | mounted
  | ready
  | writing
  | stalled
  | full
  | writeProtected
  | fault
  | off
deriving DecidableEq, Repr

/-- A run of card blocks: an extent, a run of a plan or of a placement record (R128). -/
structure Run where
  start : Nat
  count : Nat
deriving DecidableEq, Repr

/-- Outcome of a placement record (07 section 7.4). -/
inductive PlacementOutcome where
  | file
  | void
deriving DecidableEq, Repr

/-- One placement record (R133, R134; layout 10 section 10.5). -/
structure Placement where
  card : CardSlot
  rend : Rendition
  outcome : PlacementOutcome
  number : Nat
  length : Nat
  runs : List Run
deriving DecidableEq, Repr

/-- The active write of a slot (R132): the duty as table slot, shot number and rendition, the plan, the header taken
at the start, the write length, the attempt, the blocks completed in it, and the write timer. -/
structure ActiveWrite where
  slot : Nat
  number : Nat
  rend : Rendition
  plan : List Run
  header : List Byte
  length : Nat
  attempt : Nat
  done : Nat
  timer : Timer
deriving DecidableEq, Repr

/-- Counters of a slot (R141). -/
structure CardCounters where
  completed : Nat
  errors : Nat
  voids : Nat
  timeouts : Nat
deriving DecidableEq, Repr

/-- One card slot. `used` is the used-block record, as the runs in the order they joined it (R128). -/
structure Card where
  power : Bool
  state : CardState
  capacity : Option Nat
  extents : List Run
  used : List Run
  log : List Placement
  write : Option ActiveWrite
  mountTimer : Timer
  counters : CardCounters
deriving DecidableEq, Repr

/-- Card mode (R139). -/
inductive CardMode where
  | independent
  | overflow
deriving DecidableEq, Repr

/-! ## Cells, records and frames the part sends -/

/-- Answer status (09 section 9.2). -/
inductive Status where
  | done
  | busy
  | unknown
  | denied
  | badarg
  | state
  | gone
  | full
  | badtable
deriving DecidableEq, Repr

/-- Link state of the tether engine (08 section 8.2). -/
inductive LinkState where
  | down
  | linked
  | bound
  | echo
deriving DecidableEq, Repr

/-- Transfer mode (08 section 8.3). -/
inductive Mode where
  | windowed
  | basic
  | preview
deriving DecidableEq, Repr

/-- Result of the negotiation record (R148). -/
inductive NegResult where
  | notBound
  | bound (mode : Mode)
  | refused
  | timeout
  | lost
deriving DecidableEq, Repr

/-- Phase of a transfer (08 section 8.6). -/
inductive Phase where
  | announced
  | sending
deriving DecidableEq, Repr

/-- Operating state (09 section 9.4). -/
inductive OpState where
  | standby
  | run
deriving DecidableEq, Repr

/-- Kind of a LOAD (09 section 9.6). -/
inductive LoadKind where
  | geometry
  | profiles
  | routing
  | sites
  | recipe
  | lensProfiles
  | aliases
deriving DecidableEq, Repr

/-- The load-in-progress record (R174); the bytes gathered stand in the load buffer. -/
structure LoadRecord where
  kind : LoadKind
  slot : Nat
  length : Nat
  tag : Byte
  code : Word32
deriving DecidableEq, Repr

/-- Counters of one channel (R172). -/
structure ChanCounters where
  stray : Nat
  malformed : Nat
  busy : Nat
  unknown : Nat
  denied : Nat
  strayLoad : Nat
deriving DecidableEq, Repr

/-- One channel: input queue, event latches (in the layout of 10 section 10.2), event mask (bit set: unmasked), notice
flag, counters. -/
structure Chan where
  queue : List Cell
  latches : BitVec 56
  mask : Word32
  notice : Bool
  counters : ChanCounters
deriving DecidableEq, Repr

/-- What IDNT answers (R172). -/
structure IdentityAnswer where
  part : Word32
  level : Nat
  channel : Channel
  opState : OpState
  timeBase : Nat
  geometry : Bool
  routing : Bool
  profiles : Nat
  sites : Nat
  generations : List Nat
  lensProfiles : Nat
  aliases : Nat
  load : Option (LoadRecord × Nat)
  mask : Word32
  hostCounters : ChanCounters
  deskCounters : ChanCounters
deriving DecidableEq, Repr

/-- What SLST answers (R29). -/
structure ShotListAnswer where
  free : Nat
  reserved : Nat
  low : Bool
  floor : Nat
  warnLevel : Nat
  provisional : Nat
  shots : List (Nat × ShotState)
deriving DecidableEq, Repr

/-- The capture status of BLOG (R68). -/
structure CaptureStatus where
  state : CaptureState
  armed : Option Nat
  fireLatch : Bool
  focus : Bool
  release : Bool
  held : Nat
  exposing : Bool
  records : Nat
  nextBurst : Nat
  skips : Nat
  discards : Nat
deriving DecidableEq, Repr

/-- The intake status of SRCS (R49). -/
structure IntakeStatus where
  source : Source
  pattern : Option (PatternKind × Nat × Nat)
  inFrame : Bool
  lanes : List Bool
  laneCount : Nat
  lines : Nat
  samples : Nat
  buffer0 : BufferState
  buffer1 : BufferState
  nextLive : Nat
  counters : IntakeCounters
deriving DecidableEq, Repr

/-- The lens status of LPRB (R89). -/
structure LensStatus where
  state : LensState
  sensed : Option Nat
  profileId : Option Nat
  revision : Option Nat
  report : Option CapabilityReport
  contract : Option Contract
  inFlight : Option Nat
  queued : Option Nat
  position : Option Nat
  aperture : Nat
  faultCount : Nat
  counters : LensCounters
deriving DecidableEq, Repr

/-- The focus status of FTGT (R106). -/
structure FocusStatus where
  state : FocusState
  mode : Option FocusMode
  targetSource : TargetSource
  target : List Nat
  error : Option Int
  inBand : Bool
  valid : Nat
  miss : Nat
  seek : Nat
  run : Nat
  measuredFrame : Option Nat
  sentTarget : Option Nat
  queuedTarget : Option Nat
  counters : FocusCounters
deriving DecidableEq, Repr

/-- The development in progress as the development status gives it (R122): the shot, its fixed outputs, the output
being produced with the pages it holds, the requeue mark. -/
structure WorkStatus where
  number : Option Nat
  outputs : List Rendition
  producing : Option (Rendition × Nat)
  requeue : Bool
deriving DecidableEq, Repr

/-- The development status of LOAD RECIPE (R122): the development in progress; the queue from the head; the
generations of the four slots. -/
structure DevStatus where
  state : DevState
  work : Option WorkStatus
  queue : List (Option Nat × Nat)
  generations : List (Nat × Option Nat)
  counters : DevCounters
deriving DecidableEq, Repr

/-- The active write as the slot status gives it (R141). -/
structure WriteStatus where
  number : Nat
  rend : Rendition
  attempt : Nat
  done : Nat
  planned : Nat
deriving DecidableEq, Repr

/-- The slot status of CPWR and XTNT (R141). -/
structure SlotStatus where
  state : CardState
  power : Bool
  detect : Bool
  protect : Bool
  capacity : Option Nat
  extents : Nat
  blocks : Nat
  records : Nat
  write : Option WriteStatus
  mode : CardMode
  counters : CardCounters
deriving DecidableEq, Repr

/-- The tether settings (R144); timeouts in seconds, seconds and milliseconds. -/
structure TetherSettings where
  power : Bool
  frameType : Word16
  station : Addr48
  preferences : List Mode
  rank : List Rendition
  negotiation : Nat
  silence : Nat
  acknowledgement : Nat
deriving DecidableEq, Repr

/-- Counters of the tether engine (R164). -/
structure TetherCounters where
  malformed : Nat
  unexpected : Nat
  foreign : Nat
  ignoredAcks : Nat
  ackTimeouts : Nat
  announces : Nat
  blocks : Nat
  resent : Nat
  completed : Nat
  fragments : Nat
  mirrorDropped : Nat
  echoed : Nat
deriving DecidableEq, Repr

/-- The active transfer as the tether status gives it (R164). -/
structure TransferStatus where
  number : Nat
  rend : Rendition
  phase : Phase
  length : Nat
  acked : Nat
  next : Nat
  expiries : Nat
deriving DecidableEq, Repr

/-- The tether status of ECHO and TRST (R164). -/
structure TetherStatus where
  link : LinkState
  etherUp : Bool
  settings : TetherSettings
  desk : Option Addr48
  mode : Option Mode
  window : Nat
  result : NegResult
  mirror : Bool
  mirrorFrame : Option (Nat × Nat)
  transfer : Option TransferStatus
  queue : List (Nat × Rendition)
  counters : TetherCounters
deriving DecidableEq, Repr

/-- The arguments of an answer: bytes where the manual gives their layout, otherwise the record that the rule lists, which
Machine/Reports.lean lays out (notes/assumptions/6.md); `setting` is a setting's number and the value in force. -/
inductive Payload where
  | bytes (b : List Byte)
  | setting (number : Nat) (values : List Nat)
  | identity (r : IdentityAnswer)
  | shotList (r : ShotListAnswer)
  | shotImage (total : Nat) (image : List Byte)
  | capture (r : CaptureStatus) (record : Option (List Byte))
  | intake (r : IntakeStatus)
  | lens (r : LensStatus)
  | focus (r : FocusStatus)
  | development (r : DevStatus)
  | cardSlot (r : SlotStatus)
  | tether (r : TetherStatus)
deriving DecidableEq, Repr

/-- ANSWER or NOTICE (09 section 9.1). -/
inductive OutKind where
  | answer
  | notice
deriving DecidableEq, Repr

/-- A control cell the part sends, with its argument bytes; their count is the argument length (10 section 10.2). -/
structure OutCell where
  kind : OutKind
  tag : Byte
  code : Word32
  status : Status
  continued : Bool
  args : List Byte
deriving DecidableEq, Repr

/-- The body of a tether frame the part sends. An echoed frame carries the received body unchanged, its padding among
it (R162). -/
inductive FrameBody where
  | answer (bound : Bool) (mode : Option Mode) (window : Nat)
  | announce (number : Nat) (rend : Rendition) (length : Nat) (summary chain : List Byte)
  | block (number : Nat) (rend : Rendition) (offset : Nat) (data : List Byte)
  | abort (number : Nat) (rend : Rendition)
  | control (cell : OutCell)
  | mirror (sequence total offset : Nat) (data : List Byte)
  | echoed (body : List Byte)
deriving DecidableEq, Repr

/-- A tether frame the part sends (10 section 10.3). -/
structure TetherFrame where
  dst : Addr48
  src : Addr48
  frameType : Word16
  body : FrameBody
deriving DecidableEq, Repr

/-! ## Tether engine (08) -/

/-- The active transfer (R152 to R157). `announceReady` marks an ANNOUNCE the port has not yet taken. -/
structure Transfer where
  slot : Nat
  number : Nat
  rend : Rendition
  header : List Byte
  summary : List Byte
  chain : List Byte
  length : Nat
  phase : Phase
  announceReady : Bool
  acked : Nat
  next : Nat
  highest : Nat
  expiries : Nat
  timer : Timer
deriving DecidableEq, Repr

/-- The mirror buffer (R161). -/
structure MirrorFrame where
  sequence : Nat
  image : LiveImage
  total : Nat
  sent : Nat
deriving DecidableEq, Repr

/-- The tether engine. `ready` holds the class 1 frames in the order they became ready (R155), `lastSent` the bytes of the
frame the port took last. -/
structure Tether where
  settings : TetherSettings
  link : LinkState
  desk : Option Addr48
  mode : Option Mode
  window : Nat
  result : NegResult
  negTimer : Timer
  silenceTimer : Timer
  transfer : Option Transfer
  mirrorOn : Bool
  mirror : Option MirrorFrame
  ready : List TetherFrame
  lastSent : Option (List Byte)
  counters : TetherCounters
deriving DecidableEq, Repr

/-- The channel unit's own state besides the two channels (09). `lastTaken` holds the bytes of the unit the host link took
last. -/
structure Control where
  opState : OpState
  timeBase : Nat
  load : Option LoadRecord
  loadBuffer : List Byte
  resetAwaited : Bool
  ready : List OutCell
  lastTaken : Option (List Byte)
deriving DecidableEq, Repr

/-- The whole part, and the queue of commands that wait, first in first out. -/
structure State where
  pending : List Instr
  pins : Pins
  control : Control
  hostChan : Chan
  deskChan : Chan
  store : Store
  intake : Intake
  capture : Capture
  lens : Lens
  focus : Focus
  dev : DevEngine
  cardA : Card
  cardB : Card
  cardMode : CardMode
  tether : Tether
deriving DecidableEq, Repr

/-! ## Reset (R30, R50, R69, R91, R107, R123, R142, R165, R177) -/

def ChanCounters.zero : ChanCounters :=
  { stray := 0, malformed := 0, busy := 0, unknown := 0, denied := 0, strayLoad := 0 }

/-- R177. -/
def Chan.reset : Chan :=
  { queue := [], latches := 0, mask := 0, notice := false, counters := ChanCounters.zero }

/-- R177. -/
def Control.reset : Control :=
  { opState := .standby, timeBase := 0, load := none, loadBuffer := [], resetAwaited := false, ready := [],
    lastTaken := none }

/-- R30. -/
def Store.reset : Store :=
  { free := List.range' poolFirst poolCount, shots := [], routing := none, nextNumber := 1, floor := 256,
    warnLevel := 512, low := false }

def Lane.reset : Lane := { locked := false, usable := false, timer := none }

def LiveBuffer.reset : LiveBuffer := { state := .free, frame := none }

def IntakeCounters.zero : IntakeCounters :=
  { opened := 0, abnormal := 0, checkFail := [0, 0, 0, 0], rejRange := 0, rejOrder := 0, rejIncomplete := 0,
    outside := 0, stray := 0, fills := 0, truncated := 0, liveDropped := 0, injectDiscarded := 0,
    injectMalformed := 0 }

/-- R50. -/
def Intake.reset : Intake :=
  { geometry := none, waitingGeometry := none, source := .sensor, patternKind := .ramp, flat := 0, interval := 33,
    patternCounter := 0, patternTimer := none, lanes := [Lane.reset, Lane.reset, Lane.reset, Lane.reset],
    lossInterval := 25, stalePeriod := 80, parts := [], frame := none, buffer0 := LiveBuffer.reset,
    buffer1 := LiveBuffer.reset, nextLive := 1, counters := IntakeCounters.zero }

/-- R69. -/
def Capture.reset : Capture :=
  { profiles := [none, none, none, none, none, none, none, none], armed := none, state := .disarmed,
    fireLatch := false, ring := [], ringExposing := none, burstFrames := 0, burstIndex := 0, log := [],
    nextBurst := 1, skips := 0, discards := 0 }

/-- R91, before the lens present line is taken. -/
def Lens.reset : Lens :=
  { state := .absent, sensed := none, profileId := none, profile := none, report := none, contract := none,
    inFlight := none, queued := none, position := none, aperture := 0, faultCount := 0, select := 0, phase := 0,
    nibbles := 0, outstanding := none, misses := 0, waits := 0, offered := 0, setupDone := 0, settleTimer := none,
    answerTimer := none, waitTimer := none, driveTimer := none, reprobeTimer := none, driveTimeout := 500,
    aliases := [], profiles := [], lastSent := none,
    counters := { timeouts := 0, unexpected := 0, drives := 0, aborts := 0, clamped := 0, probes := 0 } }

/-- R107. -/
def Focus.reset : Focus :=
  { sites := [], awaited := [], set := [], measuredFrame := none, measuredPosition := none, target := [],
    targetSource := .default, error := none, inBand := false, inFocus := [], centroid := none, history := [],
    velocity := 0, predicted := none, miss := 0, seek := 0, run := 0, state := .off, threshold := 64, deadband := 8,
    lossLimit := 6, sentTarget := none, queuedTarget := none, armed := false, mode := none, demand := false,
    counters := { measurements := 0, handovers := 0, requests := 0, refused := 0, unplanned := 0 } }

def RecipeSlot.reset : RecipeSlot := { generation := 0, current := none, previous := none }

/-- R123. -/
def DevEngine.reset : DevEngine :=
  { bank := [RecipeSlot.reset, RecipeSlot.reset, RecipeSlot.reset, RecipeSlot.reset], queue := [], state := .idle,
    work := none, serial := 0,
    counters := { completed := 0, abandoned := 0, spaceWaits := 0, reduced := 0, substitutions := 0 } }

/-- R142, before the card-detect line is taken. -/
def Card.reset : Card :=
  { power := true, state := .empty, capacity := none, extents := [], used := [], log := [], write := none,
    mountTimer := none, counters := { completed := 0, errors := 0, voids := 0, timeouts := 0 } }

/-- The defaults of R144. -/
def TetherSettings.default : TetherSettings :=
  { power := true, frameType := 0x9B12, station := 0x02005A000640, preferences := [.windowed, .basic],
    rank := [.prv, .dev, .raw], negotiation := 3, silence := 5, acknowledgement := 250 }

/-- R165, with the link down. -/
def Tether.reset : Tether :=
  { settings := TetherSettings.default, link := .down, desk := none, mode := none, window := 0, result := .notBound,
    negTimer := none, silenceTimer := none, transfer := none, mirrorOn := false, mirror := none, ready := [],
    lastSent := none,
    counters := { malformed := 0, unexpected := 0, foreign := 0, ignoredAcks := 0, ackTimeouts := 0, announces := 0,
                  blocks := 0, resent := 0, completed := 0, fragments := 0, mirrorDropped := 0, echoed := 0 } }

/-- The levels State.reset takes for the lines and links: host link up, every other one negated or down. DESIGN CHOICE
(notes/assumptions/8.md): the manual gives the part no levels of its own for its inputs. -/
def Pins.atReset : Pins :=
  { focus := false, release := false, lensPresent := false, detectA := false, detectB := false, protectA := false,
    protectB := false, etherUp := false, hostUp := true }

/-- The machine right after reset: every block at its reset state and every line as `Pins.atReset`; with no line
asserted and the Ethernet link down, nothing starts by itself. -/
def State.reset : State :=
  { pending := [], pins := Pins.atReset, control := Control.reset, hostChan := Chan.reset, deskChan := Chan.reset,
    store := Store.reset, intake := Intake.reset, capture := Capture.reset, lens := Lens.reset, focus := Focus.reset,
    dev := DevEngine.reset, cardA := Card.reset, cardB := Card.reset, cardMode := .independent,
    tether := Tether.reset }

end Sys2Proof.Machine
end

