-- ==== Sys2Proof/Machine/Flags.lean ====
section
/-! DEFINITION. Events, latches, masks and notice flags of the two channels (09 section 9.9). -/

namespace Sys2Proof.Machine

/-- The 27 events (10 section 10.7); lane events name a lane and card events a slot. -/
inductive Event where
  | spaceLow
  | spaceOk
  | shotRetired
  | laneLost (lane : Nat)
  | laneLocked (lane : Nat)
  | captureStall
  | burstEnd
  | lensAttached
  | lensDetached
  | lensReady
  | lensNodrive
  | lensFault
  | focusLocked
  | focusFail
  | focusLost
  | developDone
  | cardReady (slot : CardSlot)
  | cardFull (slot : CardSlot)
  | cardStalled (slot : CardSlot)
  | cardFault (slot : CardSlot)
  | cardRemoved (slot : CardSlot)
  | placementReady (slot : CardSlot)
  | tetherBound
  | tetherLost
  | deskDelivered
  | deskRequest
  | hostlinkUp
deriving DecidableEq, Repr

/-- Slot A 0, slot B 1 (10 sections 10.2 and 10.5). -/
def slotIndex : CardSlot → Nat
  | .a => 0
  | .b => 1

/-- The event's code n (10 section 10.7): its bit in the mask. -/
def eventCode : Event → Nat
  | .spaceLow => 0
  | .spaceOk => 1
  | .shotRetired => 2
  | .laneLost _ => 3
  | .laneLocked _ => 4
  | .captureStall => 5
  | .burstEnd => 6
  | .lensAttached => 7
  | .lensDetached => 8
  | .lensReady => 9
  | .lensNodrive => 10
  | .lensFault => 11
  | .focusLocked => 12
  | .focusFail => 13
  | .focusLost => 14
  | .developDone => 15
  | .cardReady _ => 16
  | .cardFull _ => 17
  | .cardStalled _ => 18
  | .cardFault _ => 19
  | .cardRemoved _ => 20
  | .placementReady _ => 21
  | .tetherBound => 22
  | .tetherLost => 23
  | .deskDelivered => 24
  | .deskRequest => 25
  | .hostlinkUp => 26

/-- The place of a card event's latch in the latched set (10 section 10.2). -/
def cardLatchBit (n : Nat) (slot : CardSlot) : Nat := 40 + 2 * (n - 16) + slotIndex slot

/-- The event's bit in the 56-bit latched set (10 section 10.2): the event's code where it names nothing, bits 32 to
39 for the lane events, bits 40 to 51 for the card events. -/
def latchBit : Event → Nat
  | .laneLost l => 32 + l
  | .laneLocked l => 36 + l
  | .cardReady c => cardLatchBit 16 c
  | .cardFull c => cardLatchBit 17 c
  | .cardStalled c => cardLatchBit 18 c
  | .cardFault c => cardLatchBit 19 c
  | .cardRemoved c => cardLatchBit 20 c
  | .placementReady c => cardLatchBit 21 c
  | e => eventCode e

/-- The events of 09 section 9.9 offered to the host channel alone. -/
def hostOnly : Event → Bool
  | .deskRequest => true
  | .hostlinkUp => true
  | _ => false

/-- Whether the channel's mask lets the event through. -/
def unmasked (c : Chan) (e : Event) : Bool := c.mask.getLsbD (eventCode e)

/-- Whether the event's latch is set on the channel. -/
def latched (c : Chan) (e : Event) : Bool := c.latches.getLsbD (latchBit e)

/-- R179: where the event is unmasked its latch is set; where it is masked nothing happens. -/
def setLatch (e : Event) (c : Chan) : Chan :=
  if unmasked c e then { c with latches := c.latches ||| BitVec.ofNat 56 (2 ^ latchBit e) } else c

/-- R180: a notice is due when the offer set a latch that was clear on a channel whose notice flag is clear. -/
def noticeDue (e : Event) (c : Chan) : Bool := unmasked c e && !latched c e && !c.notice

/-- R181: the read clears every latch of the channel and its notice flag. -/
def clearLatches (c : Chan) : Chan := { c with latches := 0, notice := false }

/-- R182: the masks that name only events offered to the channel: no bit above 26, and on the desk channel neither
DESK_REQUEST nor HOSTLINK_UP. -/
def maskAllowed (ch : Channel) (m : Nat) : Bool :=
  match ch with
  | .host => m < 2 ^ 27
  | .desk => m < 2 ^ 25

end Sys2Proof.Machine
end

