-- ==== Sys2Proof/Config.lean ====
section
/-! DEFINITION. Free values: results the manual does not state. Each is an opaque constant with no body, so no proof
can learn a value of it (notes/assumptions/11.md). -/

namespace Sys2Proof.Config

/-- The byte at an offset of the encoded image of an output (DEV or PRV) developed from this frame (its samples with
shading applied, in units of 1/4,096) under this recipe, with this development block; `serial` counts the outputs. The
arithmetic of development is outside the manual (00 Scope; 06 section 6.1). -/
opaque encodedByte (frame : List (List Nat)) (recipe : Machine.Recipe) (block : Machine.DevBlock)
  (serial offset : Nat) : Byte

/-- How far above the lowest gain of its nearest grid points a sample's gain lies, for a sample `row` of `lines - 1` parts
and `column` of `samples - 1` parts past the nearest point before it (R114 says between the points and no more:
notes/assumptions/52.md). The model keeps the gain between them. -/
opaque gainBetween (near : List Nat) (row column lines samples : Nat) : Nat

/-- The disparity that measuring a window of samples gives, in two's complement, -512 to +511. R93 takes it from the samples
of the site's window alone and gives no arithmetic for it (notes/assumptions/9.md). -/
opaque windowDisparity (window : List Nat) : BitVec 10

/-- The confidence that measuring a window of samples gives, 0 to 255 (R93, notes/assumptions/9.md). -/
opaque windowConfidence (window : List Nat) : Byte

/-- The byte of a channel of the live-view pixel at a row and column, made from its block of samples at this sample depth,
line by line. R44 makes each pixel of three bytes of colour from such a block and gives no arithmetic for it. -/
opaque livePixelByte (depth : Nat) (block : List (List Nat)) (row column channel : Nat) : Byte

/-- The byte that pads the last card block of a write after its last byte (R132 gives no value). -/
opaque cardPadByte (offset : Nat) : Byte

/-- What a sample that does not fit the sample depth becomes (R31, R48 carry samples in two bytes; R40 packs each at
the sample depth and states nothing for a larger one). The model keeps it within the depth. -/
opaque overRangeSample (depth sample : Nat) : Nat

end Sys2Proof.Config
end

