-- ==== Sys2Proof/Machine/Layout.lean ====
section
/-! DEFINITION. The conventions of every layout (R183): little-endian fields, signed fields, byte strings, flag bytes and
absence. -/

namespace Sys2Proof.Machine

/-- R183: a number in `n` bytes, least significant byte first. -/
def le : Nat → Nat → List Byte
  | 0, _ => []
  | n + 1, v => BitVec.ofNat 8 v :: le n (v / 256)

/-- R183: a byte string of `n` bytes held as a number, its first byte highest (station addresses, command codes). -/
def be (n v : Nat) : List Byte := (le n v).reverse

/-- R183: the number a run of bytes holds, least significant byte first. -/
def readLe : List Byte → Nat
  | [] => 0
  | b :: rest => b.toNat + 256 * readLe rest

/-- The first `n` bytes as a number, with the bytes after them; none where fewer than `n` remain. -/
def takeLe (n : Nat) (bytes : List Byte) : Option (Nat × List Byte) :=
  if bytes.length < n then none else some (readLe (bytes.take n), bytes.drop n)

/-- R183: a signed number in `n` bytes, two's complement. -/
def leSigned (n : Nat) (v : Int) : List Byte := le n (v % (256 ^ n : Int)).toNat

/-- A number in `n` bytes read as two's complement. -/
def toSigned (n v : Nat) : Int := if v < 256 ^ n / 2 then v else (v : Int) - (256 ^ n : Int)

/-- A flag byte or code from its bits, bit 0 first. -/
def bitsOf : List Bool → Nat
  | [] => 0
  | b :: rest => (if b then 1 else 0) + 2 * bitsOf rest

/-- A flag in a byte of its own: 1 for true. -/
def flag (b : Bool) : List Byte := le 1 (bitsOf [b])

/-- `n` zero bytes. -/
def zeros (n : Nat) : List Byte := List.replicate n 0

/-- A field that may be absent: 0 where the table gives no sentinel (R183). -/
def orZero (v : Option Nat) : Nat := v.getD 0

/-- A two-byte field whose sentinel for absence is 0xFFFF. -/
def orFFFF (v : Option Nat) : Nat := v.getD 65535

/-- A presence byte in front of a field of `n` bytes that holds 0 where it is absent (R183). -/
def maybe (n : Nat) (v : Option Nat) : List Byte := flag v.isSome ++ le n (orZero v)

/-- A count of `n` bytes in front of a list of records. -/
def counted {α : Type} (n : Nat) (record : α → List Byte) (l : List α) : List Byte :=
  le n l.length ++ (l.map record).flatten

end Sys2Proof.Machine
end

