-- ==== Sys2Proof/Machine/Operands.lean ====
section
/-! DEFINITION. The codes of fields and commands: the enumerated values of 10 section 10.7 and of the layouts, the
four-character command codes, the permission table of 09 section 9.3, the argument layout of each command, and the
numbers this model gives the settings and load kinds (notes/assumptions/5.md). -/

namespace Sys2Proof.Machine

/-! ## Enumerated values received -/

/-- Rendition codes: RAW 0, DEV 1, PRV 2 (10 section 10.7). -/
def rendOfCode : Nat → Option Rendition
  | 0 => some .raw
  | 1 => some .dev
  | 2 => some .prv
  | _ => none

/-- Destination codes: CARD_A 0, CARD_B 1, DESK 2 (10 section 10.7). -/
def destOfCode : Nat → Option Dest
  | 0 => some .cardA
  | 1 => some .cardB
  | 2 => some .desk
  | _ => none

/-- Card slot codes: A 0, B 1 (10 section 10.5). -/
def slotOfCode : Nat → Option CardSlot
  | 0 => some .a
  | 1 => some .b
  | _ => none

/-- Off 0, on 1 (log 5). -/
def switchOfCode : Nat → Option Bool
  | 0 => some false
  | 1 => some true
  | _ => none

/-- Tether mode codes: WINDOWED 1, BASIC 2, PREVIEW 3 (10 section 10.7). -/
def modeOfCode : Nat → Option Mode
  | 1 => some .windowed
  | 2 => some .basic
  | 3 => some .preview
  | _ => none

/-- Source codes: SENSOR 0, PATTERN 1, INJECT 2 (10 section 10.4). -/
def sourceOfCode : Nat → Option Source
  | 0 => some .sensor
  | 1 => some .pattern
  | 2 => some .inject
  | _ => none

/-- Pattern kinds: RAMP 0, BARS 1, FLAT 2, in the order of R46 (log 5). -/
def patternOfCode : Nat → Option PatternKind
  | 0 => some .ramp
  | 1 => some .bars
  | 2 => some .flat
  | _ => none

/-- Card modes: INDEPENDENT 0, OVERFLOW 1, in the order of R139 (log 5). -/
def cardModeOfCode : Nat → Option CardMode
  | 0 => some .independent
  | 1 => some .overflow
  | _ => none

/-- Damaged policies: ALL 0, NO_DESK 1, DISCARD 2, in the order of R16 (log 7). -/
def policyOfCode : Nat → Option DamagedPolicy
  | 0 => some .all
  | 1 => some .noDesk
  | 2 => some .discard
  | _ => none

/-- Focus modes: SINGLE 0, CONTINUOUS 1, MANUAL 2, in the order of 03 section 3.1 (log 7). -/
def focusModeOfCode : Nat → Option FocusMode
  | 0 => some .single
  | 1 => some .continuous
  | 2 => some .manual
  | _ => none

/-- Release modes: FOCUS_PRIORITY 0, RELEASE_PRIORITY 1, in the order of 03 section 3.1 (log 7). -/
def releaseModeOfCode : Nat → Option ReleaseMode
  | 0 => some .focusPriority
  | 1 => some .releasePriority
  | _ => none

/-- Load kinds 0 to 6 in the order of the table of 09 section 9.6 (log 5). -/
def loadKindOfCode : Nat → Option LoadKind
  | 0 => some .geometry
  | 1 => some .profiles
  | 2 => some .routing
  | 3 => some .sites
  | 4 => some .recipe
  | 5 => some .lensProfiles
  | 6 => some .aliases
  | _ => none

/-! ## Enumerated values sent -/

def rendCode : Rendition → Nat
  | .raw => 0
  | .dev => 1
  | .prv => 2

def destCode : Dest → Nat
  | .cardA => 0
  | .cardB => 1
  | .desk => 2

def modeCode : Mode → Nat
  | .windowed => 1
  | .basic => 2
  | .preview => 3

def sourceCode : Source → Nat
  | .sensor => 0
  | .pattern => 1
  | .inject => 2

def cardModeCode : CardMode → Nat
  | .independent => 0
  | .overflow => 1

def closeCode : CloseKind → Nat
  | .normal => 0
  | .nextStart => 1
  | .stale => 2
  | .source => 3

def rendStateCode : RendState → Nat
  | .absent => 0
  | .pending => 1
  | .filling => 2
  | .ready => 3
  | .released => 4

def shotStateCode : ShotState → Nat
  | .exposing => 0
  | .held => 1
  | .opened => 2
  | .settled => 3

def dutyStateCode : DutyState → Nat
  | .owed => 0
  | .active => 1
  | .met => 2
  | .failed => 3
  | .waived => 4

def reasonCode : Option Reason → Nat
  | none => 0
  | some .cardFault => 1
  | some .redirected => 2
  | some .damaged => 3
  | some .deskDeclined => 4
  | some .skipped => 5
  | some .expired => 6
  | some .byHost => 7

def focusStateCode : FocusState → Nat
  | .off => 0
  | .idle => 1
  | .seeking => 2
  | .locked => 3
  | .tracking => 4
  | .lost => 5

def burstEndCode : Option BurstEnd → Nat
  | none => 0
  | some .released => 1
  | some .limit => 2
  | some .disarmed => 3

def placementCode : PlacementOutcome → Nat
  | .file => 0
  | .void => 1

/-! ## Command codes and permissions -/

/-- A four-character code as the 32-bit word of its ASCII letters, the first highest (10 section 10.2). -/
def code4 (a b c d : Char) : Word32 :=
  BitVec.ofNat 32 (((a.toNat * 256 + b.toNat) * 256 + c.toNat) * 256 + d.toNat)

def codeIDNT : Word32 := code4 'I' 'D' 'N' 'T'
def codeRUNM : Word32 := code4 'R' 'U' 'N' 'M'
def codeSTBY : Word32 := code4 'S' 'T' 'B' 'Y'
def codeCONF : Word32 := code4 'C' 'O' 'N' 'F'
def codeLOAD : Word32 := code4 'L' 'O' 'A' 'D'
def codePRST : Word32 := code4 'P' 'R' 'S' 'T'
def codeTRST : Word32 := code4 'T' 'R' 'S' 'T'
def codeECHO : Word32 := code4 'E' 'C' 'H' 'O'
def codeARMC : Word32 := code4 'A' 'R' 'M' 'C'
def codeDSRM : Word32 := code4 'D' 'S' 'R' 'M'
def codeFIRE : Word32 := code4 'F' 'I' 'R' 'E'
def codeCEAS : Word32 := code4 'C' 'E' 'A' 'S'
def codeFTGT : Word32 := code4 'F' 'T' 'G' 'T'
def codeSRCS : Word32 := code4 'S' 'R' 'C' 'S'
def codeLPRB : Word32 := code4 'L' 'P' 'R' 'B'
def codeSLST : Word32 := code4 'S' 'L' 'S' 'T'
def codeSHOT : Word32 := code4 'S' 'H' 'O' 'T'
def codeBLOG : Word32 := code4 'B' 'L' 'O' 'G'
def codeHOLD : Word32 := code4 'H' 'O' 'L' 'D'
def codeUNHD : Word32 := code4 'U' 'N' 'H' 'D'
def codeWAIV : Word32 := code4 'W' 'A' 'I' 'V'
def codePRIO : Word32 := code4 'P' 'R' 'I' 'O'
def codeDHLD : Word32 := code4 'D' 'H' 'L' 'D'
def codeDUNH : Word32 := code4 'D' 'U' 'N' 'H'
def codePULL : Word32 := code4 'P' 'U' 'L' 'L'
def codeRUSH : Word32 := code4 'R' 'U' 'S' 'H'
def codeSKIP : Word32 := code4 'S' 'K' 'I' 'P'
def codeMIRR : Word32 := code4 'M' 'I' 'R' 'R'
def codeCAPN : Word32 := code4 'C' 'A' 'P' 'N'
def codeXTNT : Word32 := code4 'X' 'T' 'N' 'T'
def codePLRD : Word32 := code4 'P' 'L' 'R' 'D'
def codeCPWR : Word32 := code4 'C' 'P' 'W' 'R'
def codeEVRD : Word32 := code4 'E' 'V' 'R' 'D'
def codeEVMK : Word32 := code4 'E' 'V' 'M' 'K'

/-- One row of the permission table: the host column, the desk column, and whether STANDBY accepts the code. -/
structure Permission where
  code : Word32
  host : Bool
  desk : Bool
  standby : Bool
deriving DecidableEq, Repr

/-- The table of 09 section 9.3. -/
def permissions : List Permission :=
  [⟨codeIDNT, true, true, true⟩, ⟨codeRUNM, true, false, true⟩, ⟨codeSTBY, true, false, false⟩,
   ⟨codeCONF, true, false, true⟩, ⟨codeLOAD, true, false, true⟩, ⟨codePRST, true, false, false⟩,
   ⟨codeTRST, true, false, false⟩, ⟨codeECHO, true, false, false⟩, ⟨codeARMC, true, false, false⟩,
   ⟨codeDSRM, true, false, false⟩, ⟨codeFIRE, true, false, false⟩, ⟨codeCEAS, true, false, false⟩,
   ⟨codeFTGT, true, false, false⟩, ⟨codeSRCS, true, false, false⟩, ⟨codeLPRB, true, false, false⟩,
   ⟨codeSLST, true, true, true⟩, ⟨codeSHOT, true, true, true⟩, ⟨codeBLOG, true, true, true⟩,
   ⟨codeHOLD, true, false, false⟩, ⟨codeUNHD, true, false, false⟩, ⟨codeWAIV, true, false, false⟩,
   ⟨codePRIO, true, false, false⟩, ⟨codeDHLD, false, true, false⟩, ⟨codeDUNH, false, true, false⟩,
   ⟨codePULL, false, true, false⟩, ⟨codeRUSH, false, true, false⟩, ⟨codeSKIP, false, true, false⟩,
   ⟨codeMIRR, false, true, false⟩, ⟨codeCAPN, true, true, false⟩, ⟨codeXTNT, true, false, false⟩,
   ⟨codePLRD, true, false, false⟩, ⟨codeCPWR, true, false, false⟩, ⟨codeEVRD, true, true, true⟩,
   ⟨codeEVMK, true, true, true⟩]

/-- The row of a code; none where the code is not one of the part's command codes (R168, check 1). -/
def permissionOf (code : Word32) : Option Permission := permissions.find? fun p => p.code == code

/-- R169: the channel's column of the row. -/
def permittedOn (p : Permission) : Channel → Bool
  | .host => p.host
  | .desk => p.desk

/-! ## Arguments of a cell (log 5) -/

/-- The settings whose value is a list of codes: mode preference list 12, rendition rank 13 (R144). -/
def settingIsList (n : Nat) : Bool := n == 12 || n == 13

/-- One field of a cell's arguments: a number of some bytes, or a station address, a byte string (R183). -/
inductive ArgField where
  | number (bytes : Nat)
  | station
deriving DecidableEq, Repr

/-- The field of a setting's value, or of each code of a list: the least whole bytes that hold its range (log 5). -/
def settingField (n : Nat) : ArgField :=
  match n with
  | 0 => .number 2
  | 1 => .number 2
  | 3 => .number 2
  | 4 => .number 2
  | 10 => .number 2
  | 11 => .station
  | 16 => .number 2
  | _ => .number 1

/-- The arguments of a command, in the order in which its rule names them: fields, then numbers of `more` bytes each up to
the end, then, for CAPN, entry data. -/
structure ArgLayout where
  fields : List ArgField
  more : Option Nat
  data : Bool
deriving DecidableEq, Repr

/-- Fields and nothing behind them. -/
def onlyFields (widths : List Nat) : ArgLayout := { fields := widths.map .number, more := none, data := false }

/-- Fields, then numbers of `more` bytes each. -/
def thenNumbers (widths : List Nat) (more : Nat) : ArgLayout :=
  { fields := widths.map .number, more := some more, data := false }

/-- CONF: the setting's number, then its value. -/
def confLayout (n : Nat) : ArgLayout :=
  if settingIsList n then thenNumbers [1] 1
  else { fields := [.number 1, settingField n], more := none, data := false }

/-- LOAD: the kind, for RECIPE the slot, and the declared length. -/
def loadLayout (kind : Nat) : ArgLayout := if kind == 4 then onlyFields [1, 1, 4] else onlyFields [1, 4]

/-- The layouts that the code alone fixes. CAPN's is the manual's (10 section 10.6), as is EVMK's (10 section 10.2); the
others are this model's (log 5). -/
def codeLayouts : List (Word32 × ArgLayout) :=
  [(codeECHO, onlyFields [1]), (codeARMC, onlyFields [1]), (codeFTGT, thenNumbers [] 1),
   (codeSRCS, onlyFields [1, 1, 2, 2]), (codeSLST, onlyFields [4]), (codeSHOT, onlyFields [4, 2]),
   (codeBLOG, onlyFields [1]), (codeHOLD, onlyFields [4]), (codeUNHD, onlyFields [4]),
   (codeWAIV, onlyFields [4, 1, 1]), (codePRIO, onlyFields [4, 1]), (codeDHLD, onlyFields [4]),
   (codeDUNH, onlyFields [4]), (codePULL, onlyFields [4, 1]), (codeRUSH, onlyFields [4, 1]),
   (codeSKIP, onlyFields [4, 1]), (codeMIRR, onlyFields [1]),
   (codeCAPN, { fields := [.number 4, .number 2], more := none, data := true }), (codeXTNT, thenNumbers [1] 4),
   (codePLRD, onlyFields [1, 1]), (codeCPWR, onlyFields [1, 1]), (codeEVMK, onlyFields [4])]

/-- The layout of a command's arguments; `first` is its first byte. -/
def argLayout (code : Word32) (first : Nat) : ArgLayout :=
  if code == codeCONF then confLayout first
  else if code == codeLOAD then loadLayout first
  else ((codeLayouts.find? fun p => p.1 == code).map fun p => p.2).getD (onlyFields [])

/-- One field from the front of the bytes; none where they run out within it. -/
def takeField (f : ArgField) (bytes : List Byte) : Option (Nat × List Byte) :=
  match f with
  | .number w => takeLe w bytes
  | .station => if bytes.length < 6 then none else some (readLe (bytes.take 6).reverse, bytes.drop 6)

/-- The fields that the bytes hold, and the bytes behind them. The bytes may end behind any field, whose successors are
then missing; none where they end within one. -/
def takeFields : List ArgField → List Byte → Option (List Nat × List Byte)
  | _, [] => some ([], [])
  | [], bytes => some ([], bytes)
  | f :: fs, bytes =>
    match takeField f bytes with
    | none => none
    | some (v, rest) => (takeFields fs rest).map fun p => (v :: p.1, p.2)

/-- Numbers of `w` bytes each to the end of the bytes. -/
def takeNumbers (w : Nat) : Nat → List Byte → Option (List Nat)
  | _, [] => some []
  | 0, _ => none
  | fuel + 1, bytes =>
    match takeLe w bytes with
    | none => none
    | some (v, rest) => (takeNumbers w fuel rest).map fun vs => v :: vs

/-- The numbers and the entry data that arguments hold; none where the bytes end within a field or go on behind the
last. -/
def readArgs (l : ArgLayout) (bytes : List Byte) : Option (List Nat × List Byte) :=
  match takeFields l.fields bytes with
  | none => none
  | some (vs, rest) =>
    if l.data then some (vs, rest)
    else
      match l.more with
      | some w => (takeNumbers w rest.length rest).map fun more => (vs ++ more, [])
      | none => if rest.isEmpty then some (vs, []) else none

/-- What stands for arguments that do not have their layout: a number beyond every range, so that a command that takes
arguments answers BADARG (R168: an argument is malformed). -/
def malformedArgument : Nat := 2 ^ 64

end Sys2Proof.Machine

namespace Sys2Proof
open Sys2Proof.Machine

/-- The argument bytes of the cell's length. -/
def Cell.argBytes (c : Cell) : List Byte := c.args.take c.argLen.toNat

/-- The arguments of the cell, read by the layout of its code. -/
def Cell.arguments (c : Cell) : Option (List Nat × List Byte) :=
  readArgs (argLayout c.code (c.argBytes.headD 0).toNat) c.argBytes

/-- The numbers the command names, in the order its rule names them. -/
def Cell.fields (c : Cell) : List Nat := (c.arguments.map fun p => p.1).getD [malformedArgument]

/-- The entry data of CAPN (10 section 10.6). -/
def Cell.data (c : Cell) : List Byte := (c.arguments.map fun p => p.2).getD []

end Sys2Proof

namespace Sys2Proof.Machine

/-! ## Settings and loads -/

/-- The settings of R173, numbered in the order of its table (log 5). -/
def settingCount : Nat := 17

/-- A CONF cell that names setting `n`, or names none of the 17: the owner of every setting answers the latter BADARG
alike (R173). -/
def confNames (n : Nat) (c : Cell) : Bool :=
  match c.fields with
  | [] => true
  | k :: _ => k == n || settingCount ≤ k

/-- A LOAD cell that names kind `n`, or names none of the seven (R174, check 1). -/
def loadNames (n : Nat) (c : Cell) : Bool :=
  match c.fields with
  | [] => true
  | k :: _ => k == n || 7 ≤ k

/-- R21: a shot number argument; 0 and numbers of more than 32 bits are out of range. -/
def shotNumberOk (n : Nat) : Bool := 1 ≤ n && n ≤ u32Max

end Sys2Proof.Machine
end

