-- ==== Sys2Proof/Machine/Unpack.lean ====
section
/-! DEFINITION. What the development engine reads: RAW decoded back into lines of samples (R115), and the SHADING grid
spread over them (R114). -/

namespace Sys2Proof.Machine

/-! ## RAW read back (R115; the items of R40 as 10 section 10.4 lays them out) -/

/-- Samples packed at the sample depth without gaps, least significant bit first. -/
def unpackSamples (depth : Nat) : Nat → Nat → List Nat
  | 0, _ => []
  | count + 1, packed => packed % 2 ^ depth :: unpackSamples depth count (packed / 2 ^ depth)

/-- The literal group or run item at the front of the stream: its samples, and the bytes after it. -/
def readItem (depth : Nat) : List Byte → Option (List Nat × List Byte)
  | kind :: count :: rest =>
    match kind.toNat with
    | 1 =>
      (takeLe ((count.toNat * depth + 7) / 8) rest).map fun p => (unpackSamples depth count.toNat p.1, p.2)
    | 2 => (takeLe 2 rest).map fun p => (List.replicate count.toNat p.1, p.2)
    | _ => none
  | _ => none

/-- The items of one line, until its samples are complete. Each item holds a sample or more, so a line of `need` samples
takes at most `need` items, which bounds the reading. -/
def readItems (depth : Nat) : Nat → Nat → List Byte → Option (List Nat × List Byte)
  | _, 0, bytes => some ([], bytes)
  | 0, _ + 1, _ => none
  | fuel + 1, need + 1, bytes =>
    match readItem depth bytes with
    | some (front, rest) =>
      (readItems depth fuel (need + 1 - front.length) rest).map fun p => (front ++ p.1, p.2)
    | none => none

/-- A line item and its line's samples: the line number and the samples, and the bytes after them. A fill line is read
like any other. -/
def readLine (depth samples : Nat) (bytes : List Byte) : Option ((Nat × List Nat) × List Byte) :=
  match takeLe 2 bytes with
  | some (number, rest) =>
    (readItems depth samples samples (rest.drop 2)).map fun p => ((number, p.1), p.2)
  | none => none

/-- The lines of the stream in the order they stand, up to `count` of them. -/
def readLines (depth samples : Nat) : Nat → List Byte → List (Nat × List Nat)
  | 0, _ => []
  | count + 1, bytes =>
    match readLine depth samples bytes with
    | some (line, rest) => line :: readLines depth samples count rest
    | none => []

/-- R115: a line RAW holds, or else a line of the fill value. -/
def frameLine (b : ReadoutBlock) (held : List (Nat × List Nat)) (number : Nat) : List Nat :=
  match held.find? fun l => l.1 == number with
  | some l => l.2
  | none => List.replicate b.samples b.fill

/-- R115: the frame that is developed, line by line, under the geometry of the readout block. -/
def frameLines (b : ReadoutBlock) (raw : List Byte) : List (List Nat) :=
  (List.range b.lines).map (frameLine b (readLines b.depth b.samples b.lines raw))

/-! ## Shading (R114) -/

/-- Gains in a row of the grid and rows of the grid: R74 gives 17 x 13 gains row by row, which the model reads as 17 in
each of 13 rows (notes/assumptions/57.md). -/
def gridColumns : Nat := 17
def gridRows : Nat := 13

/-- A gain of 1, in units of 1/4,096 (R74). -/
def unitGain : Nat := 4096

/-- R114: where coordinate `c` of `n` lies among `points` grid points spread evenly from the first coordinate to the last:
the point at or before it, and how far past that point it lies, in parts of which the next point is `n - 1` away. -/
def gridPlace (points n c : Nat) : Nat × Nat :=
  if n ≤ 1 then (0, 0) else (c * (points - 1) / (n - 1), c * (points - 1) % (n - 1))

/-- The one or two grid points between which a place lies. -/
def gridNear (place : Nat × Nat) : List Nat := if place.2 == 0 then [place.1] else [place.1, place.1 + 1]

/-- The gain at a point of the grid, which is held row by row. -/
def gridGain (grid : List Nat) (row column : Nat) : Nat := grid.getD (row * gridColumns + column) unitGain

/-- R114: the gains of the grid points nearest to a sample: four, or two or one where it lies on a line of the grid. -/
def nearGains (grid : List Nat) (row column : Nat × Nat) : List Nat :=
  (gridNear row).flatMap fun r => (gridNear column).map fun c => gridGain grid r c

/-- R114: the gain of a sample, between those of its nearest grid points. Which value between them is not stated: a free
value (notes/assumptions/52.md). On a grid point it is that point's gain. -/
def gainAt (grid : List Nat) (lines samples line column : Nat) : Nat :=
  let row := gridPlace gridRows lines line
  let col := gridPlace gridColumns samples column
  let near := nearGains grid row col
  let low := near.foldl min (near.headD unitGain)
  let high := near.foldl max (near.headD unitGain)
  low + Config.gainBetween near row.2 col.2 lines samples % (high - low + 1)

/-- R114: the gain of a sample under the working snapshot's grid, 1 where there is none. -/
def shadingGain (grid : Option (List Nat)) (lines samples line column : Nat) : Nat :=
  match grid with
  | some g => gainAt g lines samples line column
  | none => unitGain

/-- R114: each sample of the frame multiplied by its gain, in units of 1/4,096. -/
def shadeFrame (grid : Option (List Nat)) (lines samples : Nat) (frame : List (List Nat)) : List (List Nat) :=
  frame.mapIdx fun line row => row.mapIdx fun column v => v * shadingGain grid lines samples line column

/-- R114, R115: the frame an output is developed from, each sample in units of 1/4,096. -/
def sourceFrame (x : DevSource) : List (List Nat) :=
  match x.readout with
  | some b => shadeFrame x.grid b.lines b.samples (frameLines b x.raw)
  | none => []

end Sys2Proof.Machine
end

