-- ==== Sys2Proof/Machine/Bytes.lean ====
section
/-! DEFINITION. Bytes and layouts (10): chains, the shot summary and the rendition header, the pixels of a
live frame, the packed line of RAW, and the records the part returns. -/

namespace Sys2Proof.Machine

/-! ## Chains (R184) -/

/-- One extension entry: length (header and data), identifier, data (10 section 10.6). -/
def entryBytes (e : ExtEntry) : List Byte := le 2 (4 + e.data.length) ++ le 2 e.ident ++ e.data

/-- R184: the entries in appending order, followed by a zero length. -/
def chainBytes (chain : List ExtEntry) : List Byte := (chain.map entryBytes).flatten ++ zeros 2

/-- R28: the sum of the lengths of a chain's entries. -/
def chainLength (chain : List ExtEntry) : Nat := (chain.map fun e => 4 + e.data.length).foldr (· + ·) 0

/-! ## Shot summary and rendition header (10 section 10.4) -/

/-- Bytes 27 to 34 of the shot summary. -/
def lensSummaryBytes (l : Option LensSnapshot) : List Byte :=
  match l with
  | none => le 1 0 ++ le 2 0 ++ le 2 65535 ++ le 2 0 ++ le 1 0
  | some l =>
    le 1 l.aperture ++ le 2 (orZero l.sensed) ++ le 2 (orFFFF l.profile) ++ le 2 (orZero l.position) ++
      le 1 (bitsOf [l.position.isSome, l.moving, l.sensed.isSome])

/-- Bytes 35 to 45 of the shot summary. -/
def focusSummaryBytes (f : Option FocusRecord) : List Byte :=
  match f with
  | none => zeros 11
  | some f =>
    le 1 (focusStateCode f.state) ++ leSigned 4 (f.error.getD 0) ++
      le 1 (bitsOf [f.inBand, f.error.isSome, f.centroid.isSome]) ++ zeros 1 ++
      le 2 (f.centroid.getD (0, 0)).1 ++ le 2 (f.centroid.getD (0, 0)).2

/-- The shot summary, 64 bytes. -/
def summaryBytes (x : Shot) : List Byte :=
  le 4 (orZero x.number) ++ le 2 (x.burst.getD (0, 0)).1 ++ le 2 (x.burst.getD (0, 0)).2 ++ le 8 x.captureTime ++
    le 1 x.profile ++ le 1 x.cls ++ le 1 x.recipeSlot ++
    le 1 (bitsOf [x.damaged, x.truncated, x.substituted, x.shadingMissing, x.lens.isSome, x.focus.isSome]) ++
    le 2 x.recipeGen ++ le 2 x.filled ++ le 2 (orFFFF x.firstFilled) ++ le 1 x.priority ++
    lensSummaryBytes x.lens ++ focusSummaryBytes x.focus ++ zeros 18

/-- The readout block, 512 bytes. -/
def readoutBytes (b : ReadoutBlock) : List Byte :=
  le 2 b.counter ++ le 1 (sourceCode b.source) ++ le 1 (closeCode b.close) ++ le 1 b.laneCount ++ le 1 b.depth ++
    le 1 (bitsOf [b.runCoding, b.truncated]) ++ zeros 1 ++ le 2 b.lines ++ le 2 b.samples ++ le 2 b.fill ++
    le 2 b.filledCount ++ le 2 (orFFFF b.firstFilled) ++ le 2 (orFFFF b.lastStored) ++ le 4 b.rejRange ++
    le 4 b.rejOrder ++ le 4 b.rejIncomplete ++ le 2 b.embedded.length ++ b.embedded ++
    zeros (256 - b.embedded.length) ++ zeros 222

/-- The development block, 256 bytes. -/
def devBlockLayout (b : DevBlock) : List Byte :=
  le 1 b.slot ++ le 1 (bitsOf [b.substituted, b.shadingApplied, b.shadingMissing, b.half, b.subject]) ++
    le 2 b.generation ++ le 1 b.qualityAsked ++ le 1 b.qualityUsed ++ le 2 b.width ++ le 2 b.height ++
    le 2 b.cropLeft ++ le 2 b.cropTop ++ le 2 b.cropWidth ++ le 2 b.cropHeight ++ zeros 238

/-- A rendition of a shot. -/
def rendOf (x : Shot) : Rendition → Rend
  | .raw => x.raw
  | .dev => x.dev
  | .prv => x.prv

/-- The rendition's own block: the readout block for RAW, the development block for DEV and PRV. -/
def ownBlockBytes (x : Shot) (r : Rendition) : List Byte :=
  match r, (rendOf x r).content with
  | .raw, _ => (x.readout.map readoutBytes).getD (zeros readoutBlockBytes)
  | _, .encoded b _ _ => devBlockLayout b
  | _, _ => zeros devBlockBytes

/-- The rendition header (10 section 10.4). -/
def headerBytes (x : Shot) (r : Rendition) : List Byte :=
  let body := summaryBytes x ++ ownBlockBytes x r ++ chainBytes x.chain
  le 2 (4 + body.length) ++ le 1 (rendCode r) ++ le 1 partLevel ++ body

/-- The byte at an offset of what a rendition's pages hold behind its own block. -/
def contentByte (c : Content) (offset : Nat) : Byte :=
  match c with
  | .none => 0
  | .raw bytes => bytes.getD offset 0
  | .encoded block source serial => Config.encodedByte (sourceFrame source) source.recipe block serial offset

/-- R44: the block of samples of the pixel at a row and column. -/
def liveBlock (image : LiveImage) (row column : Nat) : List (List Nat) :=
  ((image.lines.drop (row * image.factor)).take image.factor).map fun l =>
    (l.drop (column * image.factor)).take image.factor

/-- R44: the byte at an offset of a live frame: its pixels row by row, three bytes each (notes/assumptions/53.md), each made
from its block. -/
def liveByte (image : LiveImage) (offset : Nat) : Byte :=
  let pixel := offset / 3
  let row := pixel / image.width
  let column := pixel % image.width
  Config.livePixelByte image.depth (liveBlock image row column) row column (offset % 3)

/-- R153: the byte at an offset of a transfer: the rendition header, then the rendition. -/
def transferByte (header : List Byte) (c : Content) (offset : Nat) : Byte :=
  match header[offset]? with
  | some b => b
  | none => contentByte c (offset - header.length)

/-- `n` bytes of a transfer from an offset. -/
def transferBytes (header : List Byte) (c : Content) (offset n : Nat) : List Byte :=
  (List.range n).map fun i => transferByte header c (offset + i)

/-! ## The packed line (R40, R41) -/

/-- A sample on its way into items: literal, or the front of a run. -/
inductive PackToken where
  | literal (v : Nat)
  | run (v count : Nat)
deriving DecidableEq, Repr

/-- An item of a packed line behind its line item. -/
inductive PackItem where
  | group (samples : List Nat)
  | run (v count : Nat)
deriving DecidableEq, Repr

/-- The maximal runs of identical samples of a line, as value and count. -/
def sampleRuns : List Nat → List (Nat × Nat)
  | [] => []
  | v :: rest =>
    match sampleRuns rest with
    | [] => [(v, 1)]
    | (w, c) :: more => if v == w then (v, c + 1) :: more else (v, 1) :: (w, c) :: more

/-- R41, steps 1 to 4, for one maximal run: run items of 130 from the front, a remainder of 3 or more as one more,
and 1 or 2 left over, or a run shorter than three, as literals. -/
def runTokens (v count : Nat) : List PackToken :=
  if count < 3 then List.replicate count (.literal v)
  else
    List.replicate (count / 130) (.run v 130) ++
      (if count % 130 < 3 then List.replicate (count % 130) (.literal v) else [.run v (count % 130)])

/-- R41: the tokens of a line, with run coding on or off. -/
def lineTokens (runCoding : Bool) (samples : List Nat) : List PackToken :=
  if runCoding then ((sampleRuns samples).map fun p => runTokens p.1 p.2).flatten
  else samples.map .literal

/-- The current literal group as an item, if it holds a sample. -/
def closeGroup (current : List Nat) : List PackItem :=
  match current with
  | [] => []
  | _ => [.group current]

/-- R41: a literal group closes when it holds 64 samples, when a run item is to be written, or at the line's end. -/
def groupTokens : List PackToken → List Nat → List PackItem
  | [], current => closeGroup current
  | .literal v :: rest, current =>
    if current.length < 63 then groupTokens rest (current ++ [v])
    else .group (current ++ [v]) :: groupTokens rest []
  | .run v c :: rest, current => closeGroup current ++ .run v c :: groupTokens rest []

/-- Samples packed at the sample depth without gaps, least significant bit first (R40, 10 section 10.4). -/
def packSamples (depth : Nat) : List Nat → Nat
  | [] => 0
  | v :: rest => v + 2 ^ depth * packSamples depth rest

/-- The bytes of an item (10 section 10.4). -/
def itemBytes (depth : Nat) : PackItem → List Byte
  | .group samples =>
    le 1 1 ++ le 1 samples.length ++ le ((samples.length * depth + 7) / 8) (packSamples depth samples)
  | .run v c => le 1 2 ++ le 1 c ++ le 2 v

/-- R40: a line's line item followed by its sample items. -/
def lineBytes (g : Geometry) (number : Nat) (isFill : Bool) (samples : List Nat) : List Byte :=
  le 2 number ++ le 1 (bitsOf [isFill]) ++ zeros 1 ++
    ((groupTokens (lineTokens g.runCoding samples) []).map (itemBytes g.depth)).flatten

/-! ## Records returned (10 section 10.5) -/

/-- A placement record. -/
def placementBytes (p : Placement) : List Byte :=
  le 1 (match p.card with | .a => 0 | .b => 1) ++ le 1 (rendCode p.rend) ++ le 1 (placementCode p.outcome) ++
    le 1 p.runs.length ++ le 4 p.number ++ le 4 p.length ++
    (p.runs.map fun r => le 4 r.start ++ le 4 r.count).flatten

/-- A burst record. -/
def burstBytes (b : BurstRecord) : List Byte :=
  le 2 b.number ++ le 1 b.profile ++ le 1 (burstEndCode b.ended) ++ le 8 b.start ++ le 4 (orZero b.first) ++
    le 1 b.pre ++ zeros 1 ++ le 4 b.post ++ le 2 b.missedSpace ++ le 2 b.missedSlot ++ le 2 b.missedFocus

/-- The eight bytes of one rendition in the shot record image. -/
def rendImageBytes (r : Rend) : List Byte :=
  le 1 (rendStateCode r.state) ++ le 1 r.readers ++ le 1 r.pages.length ++ zeros 1 ++ le 4 r.length

/-- The focus detail of the shot record image, 22 bytes. -/
def focusDetailBytes (f : Option FocusRecord) : List Byte :=
  match f with
  | none => zeros 22
  | some f =>
    le 2 (orZero f.measuredFrame) ++ le 1 (bitsOf [f.measuredFrame.isSome, f.position.isSome]) ++
      le 1 f.sites.length ++ (f.sites.map fun n => le 1 n).flatten ++ zeros (16 - f.sites.length) ++
      le 2 (orZero f.position)

/-- One duty of the shot record image, 20 bytes. -/
def dutyBytes (d : Duty) : List Byte :=
  le 1 (destCode d.dest) ++ le 1 (rendCode d.rend) ++ le 1 (dutyStateCode d.state) ++ le 1 (reasonCode d.reason) ++
    le 8 d.created ++ le 8 (orZero d.expiry)

/-- The shot record image (10 section 10.5). -/
def imageBytes (x : Shot) : List Byte :=
  let body :=
    le 1 x.slot ++ le 1 (shotStateCode x.state) ++ le 1 (bitsOf [x.provisional, x.hostHold, x.deskHold]) ++
      le 1 x.duties.length ++ summaryBytes x ++ rendImageBytes x.raw ++ rendImageBytes x.dev ++
      rendImageBytes x.prv ++ focusDetailBytes x.focus ++ (x.duties.map dutyBytes).flatten ++ chainBytes x.chain
  le 2 (2 + body.length) ++ body

/-- The latched set in 7 bytes (10 section 10.2). -/
def latchedBytes (latches : BitVec 56) : List Byte := le 7 latches.toNat

end Sys2Proof.Machine
end

