-- ==== Sys2Proof/Machine/Reports.lean ====
section
/-! DEFINITION. Answers as bytes (R166): the records that the rules list and the manual does not lay out. Each is laid out in
the order in which its rule lists its parts, every part in the least whole bytes that hold its range; a part that may be
absent has a presence byte in front, a list a count; codes that chapter 10 does not give number the values in the order of
the manual's list of them (notes/assumptions/6.md). -/

namespace Sys2Proof.Machine

/-! ## Codes chapter 10 does not give -/

/-- STANDBY 0, RUN 1 (09 section 9.4). -/
def opStateCode : OpState → Nat
  | .standby => 0
  | .run => 1

/-- Host 0, desk 1. -/
def channelCode : Channel → Nat
  | .host => 0
  | .desk => 1

/-- The kinds in the order of the table of 09 section 9.6. -/
def loadKindCode : LoadKind → Nat
  | .geometry => 0
  | .profiles => 1
  | .routing => 2
  | .sites => 3
  | .recipe => 4
  | .lensProfiles => 5
  | .aliases => 6

/-- The capture states in the order of 03 section 3.3. -/
def captureStateCode : CaptureState → Nat
  | .disarmed => 0
  | .armed => 1
  | .gathering => 2
  | .awaitingFocus => 3
  | .firing => 4
  | .stalled => 5
  | .spent => 6

/-- The pattern kinds in the order of R46. -/
def patternCode : PatternKind → Nat
  | .ramp => 0
  | .bars => 1
  | .flat => 2

/-- The buffer states in the order of 02 section 2.5. -/
def bufferStateCode : BufferState → Nat
  | .free => 0
  | .filling => 1
  | .waiting => 2
  | .sending => 3

/-- The lens states in the order of 04 section 4.6. -/
def lensStateCode : LensState → Nat
  | .absent => 0
  | .probing => 1
  | .identified => 2
  | .negotiating => 3
  | .ready => 4
  | .driving => 5
  | .nodrive => 6
  | .fault => 7

/-- The focus modes in the order of 03 section 3.1. -/
def focusModeCode : FocusMode → Nat
  | .single => 0
  | .continuous => 1
  | .manual => 2

/-- DEFAULT 0, HOST 1 (R95). -/
def targetSourceCode : TargetSource → Nat
  | .default => 0
  | .host => 1

/-- The engine states in the order of 06 section 6.3. -/
def devStateCode : DevState → Nat
  | .idle => 0
  | .developing => 1
  | .waitSpace => 2

/-- The slot states in the order of 07 section 7.1. -/
def cardStateCode : CardState → Nat
  | .empty => 0
  | .mounting => 1
  | .mounted => 2
  | .ready => 3
  | .writing => 4
  | .stalled => 5
  | .full => 6
  | .writeProtected => 7
  | .fault => 8
  | .off => 9

/-- The link states in the order of 08 section 8.2. -/
def linkStateCode : LinkState → Nat
  | .down => 0
  | .linked => 1
  | .bound => 2
  | .echo => 3

/-- ANNOUNCED 0, SENDING 1 (08 section 8.6). -/
def phaseCode : Phase → Nat
  | .announced => 0
  | .sending => 1

/-- The results numbered in the order of R148's table, NOT_BOUND 0 to LOST 6; the manual gives no codes, the model's choice
(notes/assumptions/6.md). -/
def negResultCode : NegResult → Nat
  | .notBound => 0
  | .bound .windowed => 1
  | .bound .basic => 2
  | .bound .preview => 3
  | .refused => 4
  | .timeout => 5
  | .lost => 6

/-- Tether mode: none 0, WINDOWED 1, BASIC 2, PREVIEW 3 (10 section 10.7). -/
def modeByte (m : Option Mode) : List Byte := le 1 (orZero (m.map modeCode))

/-! ## Counters -/

/-- 32-bit counters, one behind the other. -/
def counterBytes (l : List Nat) : List Byte := (l.map (le 4)).flatten

/-! ## The channel unit (R172, R173) -/

/-- A setting's value in force, in the setting's own field (R173). -/
def settingBytes (n : Nat) (values : List Nat) : List Byte :=
  (values.map fun v => match settingField n with | .number w => le w v | .station => be 6 v).flatten

/-- The counters of a channel. -/
def channelCounters (c : ChanCounters) : List Byte :=
  counterBytes [c.stray, c.malformed, c.busy, c.unknown, c.denied, c.strayLoad]

/-- The load-in-progress record: kind, declared length and bytes gathered, or none. -/
def loadRecordBytes (l : Option (LoadRecord × Nat)) : List Byte :=
  maybe 1 (l.map fun p => loadKindCode p.1.kind) ++ le 4 (orZero (l.map fun p => p.1.length)) ++
    le 4 (orZero (l.map fun p => p.2))

/-- R172. -/
def identityBytes (r : IdentityAnswer) : List Byte :=
  be 4 r.part.toNat ++ le 1 r.level ++ le 1 (channelCode r.channel) ++ le 1 (opStateCode r.opState) ++ le 8 r.timeBase ++
    flag r.geometry ++ flag r.routing ++ le 1 r.profiles ++ le 1 r.sites ++ (r.generations.map (le 2)).flatten ++
    le 1 r.lensProfiles ++ le 1 r.aliases ++ loadRecordBytes r.load ++ le 4 r.mask.toNat ++
    channelCounters r.hostCounters ++ channelCounters r.deskCounters

/-! ## The shot store (R29) and capture control (R68) -/

/-- R29: free count, reserved count, space condition, floor, warning level, provisional shots, and the shots listed. -/
def shotListBytes (r : ShotListAnswer) : List Byte :=
  le 2 r.free ++ le 2 r.reserved ++ flag r.low ++ le 2 r.floor ++ le 2 r.warnLevel ++ le 1 r.provisional ++
    counted 1 (fun p => le 4 p.1 ++ le 1 (shotStateCode p.2)) r.shots

/-- R68: the capture status. -/
def captureBytes (r : CaptureStatus) : List Byte :=
  le 1 (captureStateCode r.state) ++ maybe 1 r.armed ++ flag r.fireLatch ++ flag r.focus ++ flag r.release ++ le 1 r.held ++
    flag r.exposing ++ le 1 r.records ++ le 2 r.nextBurst ++ counterBytes [r.skips, r.discards]

/-! ## The sensor intake (R49) -/

/-- The pattern settings while the source is PATTERN. -/
def patternBytes (p : Option (PatternKind × Nat × Nat)) : List Byte :=
  maybe 1 (p.map fun q => patternCode q.1) ++ le 2 (orZero (p.map fun q => q.2.1)) ++
    le 2 (orZero (p.map fun q => q.2.2))

/-- The counters of R49 in its order. -/
def intakeCounters (c : IntakeCounters) : List Byte :=
  counterBytes ([c.opened, c.abnormal] ++ c.checkFail ++
    [c.rejRange, c.rejOrder, c.rejIncomplete, c.outside, c.stray, c.fills, c.truncated, c.liveDropped,
     c.injectDiscarded, c.injectMalformed])

/-- R49: the intake status; each lane in use LOCKED 1 or LOST 0. -/
def intakeBytes (r : IntakeStatus) : List Byte :=
  le 1 (sourceCode r.source) ++ patternBytes r.pattern ++ flag r.inFrame ++ counted 1 flag r.lanes ++ le 1 r.laneCount ++
    le 2 r.lines ++ le 2 r.samples ++ le 1 (bufferStateCode r.buffer0) ++ le 1 (bufferStateCode r.buffer1) ++
    le 4 r.nextLive ++ intakeCounters r.counters

/-! ## The lens controller (R89) and the focus engine (R106) -/

/-- The latest capability report. -/
def reportBytes (r : Option CapabilityReport) : List Byte :=
  maybe 2 (r.map fun k => k.first) ++ le 2 (orZero (r.map fun k => k.last)) ++
    le 1 (orZero (r.map fun k => k.classes.toNat)) ++ le 1 (orZero (r.map fun k => k.apertureMin)) ++
    le 1 (orZero (r.map fun k => k.apertureMax))

/-- The contract record. -/
def contractBytes (r : Option Contract) : List Byte :=
  maybe 1 (r.map fun k => k.cls) ++ le 2 (orZero (r.map fun k => k.first)) ++ le 2 (orZero (r.map fun k => k.last))

/-- R89: the lens status; the revision is present where the lens is profiled. -/
def lensBytes (r : LensStatus) : List Byte :=
  le 1 (lensStateCode r.state) ++ maybe 2 r.sensed ++ maybe 2 r.profileId ++ maybe 1 r.revision ++ reportBytes r.report ++
    contractBytes r.contract ++ maybe 2 r.inFlight ++ maybe 2 r.queued ++ maybe 2 r.position ++ le 1 r.aperture ++
    le 1 r.faultCount ++
    counterBytes [r.counters.timeouts, r.counters.unexpected, r.counters.drives, r.counters.aborts, r.counters.clamped,
      r.counters.probes]

/-- R106: the focus status. -/
def focusBytes (r : FocusStatus) : List Byte :=
  le 1 (focusStateCode r.state) ++ maybe 1 (r.mode.map focusModeCode) ++ le 1 (targetSourceCode r.targetSource) ++
    counted 1 (le 1) r.target ++ flag r.error.isSome ++ leSigned 4 (r.error.getD 0) ++ flag r.inBand ++ le 1 r.valid ++
    le 1 r.miss ++ le 1 r.seek ++ le 1 r.run ++ maybe 2 r.measuredFrame ++ maybe 2 r.sentTarget ++
    maybe 2 r.queuedTarget ++
    counterBytes [r.counters.measurements, r.counters.handovers, r.counters.requests, r.counters.refused,
      r.counters.unplanned]

/-! ## The development engine (R122) -/

/-- The development in progress: shot number (0 where the shot has none), fixed outputs as bits (bit 1 DEV, bit 2 PRV), the
output being produced with the pages it holds, and the requeue mark. -/
def workBytes (w : Option WorkStatus) : List Byte :=
  let fixed (r : Rendition) : Bool := (w.map fun k => k.outputs.contains r).getD false
  let output := w.bind fun k => k.producing
  maybe 4 (w.map fun k => orZero k.number) ++ le 1 (bitsOf [fixed .raw, fixed .dev, fixed .prv]) ++
    maybe 1 (output.map fun p => rendCode p.1) ++ le 1 (orZero (output.map fun p => p.2)) ++
    flag ((w.map fun k => k.requeue).getD false)

/-- R122: the development status. -/
def developmentBytes (r : DevStatus) : List Byte :=
  le 1 (devStateCode r.state) ++ workBytes r.work ++ counted 1 (fun p => le 4 (orZero p.1) ++ le 1 p.2) r.queue ++
    (r.generations.map fun p => le 2 p.1 ++ maybe 2 p.2).flatten ++
    counterBytes [r.counters.completed, r.counters.abandoned, r.counters.spaceWaits, r.counters.reduced,
      r.counters.substitutions]

/-! ## The recording engine (R141) -/

/-- The active write. -/
def writeBytes (w : Option WriteStatus) : List Byte :=
  maybe 4 (w.map fun k => k.number) ++ le 1 (orZero (w.map fun k => rendCode k.rend)) ++
    le 1 (orZero (w.map fun k => k.attempt)) ++ le 4 (orZero (w.map fun k => k.done)) ++
    le 4 (orZero (w.map fun k => k.planned))

/-- R141: the slot status. -/
def slotBytes (r : SlotStatus) : List Byte :=
  le 1 (cardStateCode r.state) ++ flag r.power ++ flag r.detect ++ flag r.protect ++ maybe 4 r.capacity ++ le 1 r.extents ++
    le 4 r.blocks ++ le 1 r.records ++ writeBytes r.write ++ le 1 (cardModeCode r.mode) ++
    counterBytes [r.counters.completed, r.counters.errors, r.counters.voids, r.counters.timeouts]

/-! ## The tether engine (R164) -/

/-- The mode preference list, the rendition rank and the three timeouts (R144). -/
def preferenceBytes (t : TetherSettings) : List Byte :=
  counted 1 (fun m => le 1 (modeCode m)) t.preferences ++ (t.rank.map fun r => le 1 (rendCode r)).flatten ++
    le 1 t.negotiation ++ le 1 t.silence ++ le 2 t.acknowledgement

/-- The active transfer. -/
def transferStatusBytes (t : Option TransferStatus) : List Byte :=
  maybe 4 (t.map fun k => k.number) ++ le 1 (orZero (t.map fun k => rendCode k.rend)) ++
    le 1 (orZero (t.map fun k => phaseCode k.phase)) ++ le 4 (orZero (t.map fun k => k.length)) ++
    le 4 (orZero (t.map fun k => k.acked)) ++ le 4 (orZero (t.map fun k => k.next)) ++
    le 1 (orZero (t.map fun k => k.expiries))

/-- The counters of R164 in its order. -/
def tetherCounterBytes (c : TetherCounters) : List Byte :=
  counterBytes [c.malformed, c.unexpected, c.foreign, c.ignoredAcks, c.ackTimeouts, c.announces, c.blocks, c.resent,
    c.completed, c.fragments, c.mirrorDropped, c.echoed]

/-- R164: the tether status, its parts in the order in which R164 lists them; the manual gives no layout, the model's choice
(notes/assumptions/6.md). -/
def tetherBytes (r : TetherStatus) : List Byte :=
  le 1 (linkStateCode r.link) ++ flag r.etherUp ++ flag r.settings.power ++ be 6 r.settings.station.toNat ++
    le 2 r.settings.frameType.toNat ++ flag r.desk.isSome ++ be 6 (orZero (r.desk.map fun d => d.toNat)) ++
    modeByte r.mode ++ le 1 r.window ++ le 1 (negResultCode r.result) ++ preferenceBytes r.settings ++
    flag r.mirror ++ maybe 4 (r.mirrorFrame.map fun m => m.1) ++ le 4 (orZero (r.mirrorFrame.map fun m => m.2)) ++
    transferStatusBytes r.transfer ++ counted 2 (fun e => le 4 e.1 ++ le 1 (rendCode e.2)) r.queue ++
    tetherCounterBytes r.counters

/-! ## The cells of an answer (R166) -/

/-- The argument bytes of an answer. -/
def payloadBytes : Payload → List Byte
  | .bytes b => b
  | .setting n values => settingBytes n values
  | .identity r => identityBytes r
  | .shotList r => shotListBytes r
  | .shotImage total image => le 2 total ++ image
  | .capture r record => captureBytes r ++ flag record.isSome ++ record.getD []
  | .intake r => intakeBytes r
  | .lens r => lensBytes r
  | .focus r => focusBytes r
  | .development r => developmentBytes r
  | .cardSlot r => slotBytes r
  | .tether r => tetherBytes r

/-- The argument bytes of an answer cut into cells of at most 48; at least one cell. -/
def cellChunks : Nat → List Byte → List (List Byte)
  | 0, bytes => [bytes.take cellArgBytes]
  | fuel + 1, bytes =>
    if bytes.length ≤ cellArgBytes then [bytes]
    else bytes.take cellArgBytes :: cellChunks fuel (bytes.drop cellArgBytes)

/-- R166: every cell carries the command's tag, code and status; every cell but the last the continued mark. -/
def answerChunks (tag : Byte) (code : Word32) (status : Status) : List (List Byte) → List OutCell
  | [] => []
  | [b] => [{ kind := .answer, tag, code, status, continued := false, args := b }]
  | b :: rest => { kind := .answer, tag, code, status, continued := true, args := b } :: answerChunks tag code status rest

/-- R166: the cells of one answer, as many as its arguments need; the arguments run on across them in order. -/
def answerCells (tag : Byte) (code : Word32) (status : Status) (args : Payload) : List OutCell :=
  answerChunks tag code status (cellChunks (payloadBytes args).length (payloadBytes args))

end Sys2Proof.Machine
end

