-- ==== Sys2Proof/Machine/Frames.lean ====
section
/-! DEFINITION. Units of the host link and frames of the tether as bytes (10 sections 10.2 and 10.3). -/

namespace Sys2Proof.Machine

/-! ## Units of the host link -/

/-- Answer status codes (10 section 10.7). -/
def statusCode : Status → Nat
  | .done => 0
  | .busy => 1
  | .unknown => 2
  | .denied => 3
  | .badarg => 4
  | .state => 5
  | .gone => 6
  | .full => 7
  | .badtable => 8

/-- ANSWER 2, NOTICE 3 (10 section 10.2). -/
def outKindCode : OutKind → Nat
  | .answer => 2
  | .notice => 3

/-- The argument length in bits 0 to 6 and the continued mark in bit 7. -/
def lengthByte (length : Nat) (continued : Bool) : List Byte := le 1 (length + if continued then 128 else 0)

/-- A control cell of the part (10 section 10.2). -/
def cellBytes (c : OutCell) : List Byte :=
  le 1 (outKindCode c.kind) ++ [c.tag] ++ be 4 c.code.toNat ++ le 1 (statusCode c.status) ++
    lengthByte c.args.length c.continued ++ c.args ++ zeros (cellArgBytes - c.args.length)

/-- The 24-byte live descriptor of the payload at an offset of a live frame (10 section 10.2). -/
def liveDescriptor (f : LiveFrame) (offset : Nat) : List Byte :=
  le 4 f.sequence ++ le 2 f.counter ++ le 1 (bitsOf [f.damaged, f.number.isSome]) ++ le 1 f.image.factor ++
    le 4 (orZero f.number) ++ le 2 f.image.width ++ le 2 f.height ++ le 4 offset ++ le 4 f.total

/-- R45: a LIVE unit: the bulk header, the live descriptor, the payload (10 section 10.2). -/
def liveUnit (f : LiveFrame) (offset : Nat) (payload : List Byte) : List Byte :=
  le 1 19 ++ zeros 3 ++ le 4 payload.length ++ liveDescriptor f offset ++ payload

/-! ## Frames of the tether -/

/-- Bound 0, refused 1 (10 section 10.3). -/
def resultCode (bound : Bool) : Nat := if bound then 0 else 1

/-- The body of a frame the part sends (10 section 10.3). -/
def bodyBytes : FrameBody → List Byte
  | .answer bound mode window => le 1 2 ++ le 1 (resultCode bound) ++ modeByte mode ++ le 1 window
  | .announce number rend length summary chain =>
    le 1 3 ++ le 4 number ++ le 1 (rendCode rend) ++ le 4 length ++ le 2 summary.length ++ le 2 chain.length ++ summary ++
      chain
  | .block number rend offset data =>
    le 1 4 ++ le 4 number ++ le 1 (rendCode rend) ++ le 4 offset ++ le 2 data.length ++ data
  | .abort number rend => le 1 6 ++ le 4 number ++ le 1 (rendCode rend)
  | .control cell => le 1 7 ++ cellBytes cell
  | .mirror sequence total offset data =>
    le 1 8 ++ le 4 sequence ++ le 4 total ++ le 4 offset ++ le 2 data.length ++ data
  | .echoed body => body

/-- A frame as the port takes it: destination, source, frame type, body (10 section 10.3). -/
def frameBytes (f : TetherFrame) : List Byte :=
  be 6 f.dst.toNat ++ be 6 f.src.toNat ++ le 2 f.frameType.toNat ++ bodyBytes f.body

/-- A control cell as it arrived. -/
def receivedCell (c : Cell) : List Byte :=
  [c.kind, c.tag] ++ be 4 c.code.toNat ++ [c.status] ++ lengthByte c.argLen.toNat c.continued ++ c.args

/-- The body of a tether frame as it arrived, padding included: what ECHO returns (R162). -/
def receivedBody : Instr → List Byte
  | .offer env modes limit => le 1 1 ++ [modes, limit] ++ env.padding
  | .ack env number rend offset => le 1 5 ++ le 4 number.toNat ++ [rend] ++ le 4 offset.toNat ++ env.padding
  | .abort env number rend => le 1 6 ++ le 4 number.toNat ++ [rend] ++ env.padding
  | .control env cell => le 1 7 ++ receivedCell cell ++ env.padding
  | .idle env => le 1 9 ++ env.padding
  | .malformedTetherFrame env body => body ++ env.padding
  | .unexpectedTetherFrame env body => body ++ env.padding
  | _ => []

end Sys2Proof.Machine
end

