-- ==== Sys2Proof/Machine/Images.lean ====
section
/-! DEFINITION. Table images (09 section 9.6): reading each image into its table, and the owner's check of it. The
manual lays out the LENS_PROFILES image (10 section 10.6); the layouts of the other six are this model's own
(notes/assumptions/7.md). A reader answers none where the bytes run out, bytes are left over or a code is unlisted;
the check then answers false where a field lies outside its range. -/

namespace Sys2Proof.Machine

/-- `n` items read one behind the other. -/
def readMany {α : Type} (one : List Byte → Option (α × List Byte)) : Nat → List Byte → Option (List α × List Byte)
  | 0, bytes => some ([], bytes)
  | n + 1, bytes =>
    match one bytes with
    | none => none
    | some (a, rest) =>
      match readMany one n rest with
      | none => none
      | some (as, rest') => some (a :: as, rest')

/-- What was read, where no byte is left. -/
def whole {α : Type} (r : Option (α × List Byte)) : Option α :=
  match r with
  | some (a, []) => some a
  | _ => none

/-- Fields of the given widths, one behind the other. -/
def readFields : List Nat → List Byte → Option (List Nat × List Byte)
  | [], bytes => some ([], bytes)
  | w :: ws, bytes =>
    match takeLe w bytes with
    | none => none
    | some (v, rest) =>
      match readFields ws rest with
      | none => none
      | some (vs, rest') => some (v :: vs, rest')

/-- One number of `w` bytes. -/
def readNumber (w : Nat) (bytes : List Byte) : Option (Nat × List Byte) := takeLe w bytes

/-- A list strictly ascending. -/
def ascending : List Nat → Bool
  | a :: b :: rest => a < b && ascending (b :: rest)
  | _ => true

/-- A list without duplicates. -/
def distinct : List Nat → Bool
  | [] => true
  | a :: rest => !rest.contains a && distinct rest

/-! ## GEOMETRY (R33) -/

/-- Lane count 1, lines 2, samples 2, depth 1, fill 2, run coding 1, phase line count 2, then 2 for each phase line. -/
def readGeometry (bytes : List Byte) : Option Geometry :=
  match readFields [1, 2, 2, 1, 2, 1, 2] bytes with
  | some ([lanes, lines, samples, depth, fill, rc, count], rest) =>
    match switchOfCode rc, whole (readMany (readNumber 2) count rest) with
    | some runCoding, some phaseLines =>
      some { laneCount := lanes, lines, samples, depth, fill, runCoding, phaseLines }
    | _, _ => none
  | _ => none

/-- R33 and the ranges of 02 section 2.2. -/
def geometryOk (g : Geometry) : Bool :=
  (g.laneCount == 2 || g.laneCount == 4) && 1 ≤ g.lines && g.lines ≤ 8192 && 64 ≤ g.samples &&
    g.samples ≤ 12288 && g.samples % g.laneCount == 0 && (g.depth == 12 || g.depth == 14) &&
    g.fill < 2 ^ g.depth && g.phaseLines.length ≤ 256 && ascending g.phaseLines &&
    g.phaseLines.all (fun n => n < g.lines)

/-! ## PROFILES (R51) -/

/-- One record: the slot, then the eight fields of 03 section 3.1, a byte each. -/
def readProfile (bytes : List Byte) : Option ((Nat × Profile) × List Byte) :=
  match readFields [1, 1, 1, 1, 1, 1, 1, 1, 1] bytes with
  | some ([slot, interval, limit, depth, reserve, cls, recipe, fm, rm], rest) =>
    match focusModeOfCode fm, releaseModeOfCode rm with
    | some focusMode, some releaseMode =>
      some ((slot, { interval, limit, depth, reserve, cls, recipe, focusMode, releaseMode }), rest)
    | _, _ => none
  | _ => none

/-- A record count of 1 byte, then the records. -/
def readProfiles (bytes : List Byte) : Option (List (Nat × Profile)) :=
  match takeLe 1 bytes with
  | some (n, rest) => whole (readMany readProfile n rest)
  | none => none

/-- The ranges of 03 section 3.1. -/
def profileOk (p : Profile) : Bool :=
  1 ≤ p.interval && p.interval ≤ 8 && p.limit ≤ 255 && p.depth ≤ 15 && 1 ≤ p.reserve && p.reserve ≤ maxPages &&
    p.cls ≤ 3 && p.recipe ≤ 3

/-- R51, BADTABLE: a field outside its range, two records for one slot, or no record. -/
def profilesOk (records : List (Nat × Profile)) : Bool :=
  !records.isEmpty && records.all (fun r => r.1 ≤ 7 && profileOk r.2) && distinct (records.map (·.1))

/-! ## ROUTING (R16) -/

/-- A set of renditions as a byte: bit 0 RAW, bit 1 DEV, bit 2 PRV. -/
def rendSetOf (n : Nat) : Option RendSet :=
  if n < 8 then some { raw := n.testBit 0, dev := n.testBit 1, prv := n.testBit 2 } else none

/-- One class entry: the three sets, the policy and the lifetime, a byte each. -/
def readClassEntry (bytes : List Byte) : Option (ClassEntry × List Byte) :=
  match readFields [1, 1, 1, 1, 1] bytes with
  | some ([a, b, d, p, lifetime], rest) =>
    match rendSetOf a, rendSetOf b, rendSetOf d, policyOfCode p with
    | some cardA, some cardB, some desk, some policy => some ({ cardA, cardB, desk, policy, lifetime }, rest)
    | _, _, _, _ => none
  | _ => none

/-- Four class entries. -/
def readRouting (bytes : List Byte) : Option (List ClassEntry) := whole (readMany readClassEntry 4 bytes)

/-- R16: no lifetime above 240. -/
def routingOk (t : List ClassEntry) : Bool := t.all fun e => e.lifetime ≤ 240

/-! ## SITES (R92) -/

/-- One site record: number 1, phase index 1, first column 2, width 2, weight 1, group 1. -/
def readSite (bytes : List Byte) : Option (Site × List Byte) :=
  match readFields [1, 1, 2, 2, 1, 1] bytes with
  | some ([number, phaseIndex, column, width, weight, group], rest) =>
    some ({ number, phaseIndex, column, width, weight, group }, rest)
  | _ => none

/-- A record count of 1 byte, then the records. -/
def readSites (bytes : List Byte) : Option (List Site) :=
  match takeLe 1 bytes with
  | some (n, rest) => whole (readMany readSite n rest)
  | none => none

/-- The ranges of 05 section 5.1. -/
def siteOk (x : Site) : Bool :=
  x.number ≤ 95 && x.phaseIndex ≤ 255 && x.column ≤ 12287 && 8 ≤ x.width && x.width ≤ 1024 &&
    x.column + x.width ≤ 12288 && 1 ≤ x.weight && x.weight ≤ 15 && x.group ≤ 7

/-- R92: at most 96 records, every field in range, no site number twice. -/
def sitesOk (t : List Site) : Bool := t.length ≤ 96 && t.all siteOk && distinct (t.map (·.number))

/-! ## RECIPE (R108) -/

/-- One point of the tone curve: input 2, output 2. -/
def readPoint (bytes : List Byte) : Option ((Nat × Nat) × List Byte) :=
  match readFields [2, 2] bytes with
  | some ([i, o], rest) => some ((i, o), rest)
  | _ => none

/-- Point count 1, the points, nine signed coefficients of 2, three gains of 2, sharpen level 1, encode quality 1,
DEV scale 1 (FULL 0, HALF 1), PRV long edge 2, PRV crop 1 (CENTER 0, SUBJECT 1), shading 1 (off 0, on 1). -/
def readRecipe (bytes : List Byte) : Option Recipe :=
  match takeLe 1 bytes with
  | none => none
  | some (n, rest) =>
    match readMany readPoint n rest with
    | none => none
    | some (tone, rest) =>
      match readMany (readNumber 2) 9 rest with
      | none => none
      | some (coefficients, rest) =>
        match readMany (readNumber 2) 3 rest with
        | none => none
        | some (gains, rest) =>
          match readFields [1, 1, 1, 2, 1, 1] rest with
          | some ([sharpen, quality, sc, longEdge, cr, sh], []) =>
            match switchOfCode sc, switchOfCode cr, switchOfCode sh with
            | some half, some subject, some shading =>
              some { tone, matrix := coefficients.map (toSigned 2), gains, sharpen, quality, half, longEdge, subject,
                     shading }
            | _, _, _ => none
          | _ => none

/-- R108 and the ranges of 06 section 6.1. -/
def recipeOk (r : Recipe) : Bool :=
  2 ≤ r.tone.length && r.tone.length ≤ 64 && ascending (r.tone.map (·.1)) && r.gains.all (fun g => 1 ≤ g) &&
    r.sharpen ≤ 15 && 1 ≤ r.quality && r.quality ≤ 100 && 256 ≤ r.longEdge && r.longEdge ≤ 2048 &&
    r.longEdge % 16 == 0

/-! ## ALIASES (R72) -/

/-- One entry: sensed ID 2, profile ID 2. -/
def readAlias (bytes : List Byte) : Option ((Nat × Nat) × List Byte) := readPoint bytes

/-- An entry count of 1 byte, then the entries. -/
def readAliases (bytes : List Byte) : Option (List (Nat × Nat)) :=
  match takeLe 1 bytes with
  | some (n, rest) => whole (readMany readAlias n rest)
  | none => none

/-- R72: at most 8 entries, none for sensed ID 0xFFFF. -/
def aliasesOk (t : List (Nat × Nat)) : Bool := t.length ≤ 8 && t.all fun e => e.1 != 65535

/-! ## LENS_PROFILES (R73, R74, R184) -/

/-- The identifiers known to the part (10 section 10.6). -/
def identShading : Nat := 16
def identBands : Nat := 17
def identSetup : Nat := 18

/-- Most bytes of a record's chain, the ending zero length included (R73). -/
def chainLimit : Nat := 448

/-- Two-byte numbers, one behind the other. -/
def readWords : List Byte → List Nat
  | a :: b :: rest => (a.toNat + 256 * b.toNat) :: readWords rest
  | _ => []

/-- A band of CONVERSION_BANDS (R74). -/
structure Band where
  first : Nat
  last : Nat
  factor : Nat
deriving DecidableEq, Repr

/-- Bands of three two-byte numbers each (R184). -/
def readBands : List Nat → List Band
  | first :: last :: factor :: rest => { first, last, factor } :: readBands rest
  | _ => []

/-- No band overlaps another. -/
def bandsDisjoint : List Band → Bool
  | [] => true
  | b :: rest => rest.all (fun c => c.last < b.first || b.last < c.first) && bandsDisjoint rest

/-- An operation of a setup entry: SET 0, OR 1, AND 2 (R184). -/
inductive SetupOp where
  | set
  | or
  | and
deriving DecidableEq, Repr

/-- One setup entry (R74, R80). -/
structure SetupEntry where
  op : SetupOp
  index : Nat
  value : Nat
deriving DecidableEq, Repr

/-- Operation codes of R184. -/
def setupOpOf : Nat → Option SetupOp
  | 0 => some .set
  | 1 => some .or
  | 2 => some .and
  | _ => none

/-- Setup entries of four bytes: operation, parameter index, value (R184); none for an unlisted operation. -/
def readSetup : List Byte → Option (List SetupEntry)
  | o :: i :: lo :: hi :: rest =>
    match setupOpOf o.toNat, readSetup rest with
    | some op, some more => some ({ op, index := i.toNat, value := lo.toNat + 256 * hi.toNat } :: more)
    | _, _ => none
  | [] => some []
  | _ => none

/-- R74, R184: the data forms of the known entries; an entry with any other identifier is not checked. -/
def entryOk (e : ExtEntry) : Bool :=
  if e.ident == identShading then e.data.length == 442 && (readWords e.data).all (fun g => 1 ≤ g)
  else if e.ident == identBands then
    e.data.length % 6 == 0 && 6 ≤ e.data.length && e.data.length ≤ 48 &&
      (readBands (readWords e.data)).all (fun b => b.first ≤ b.last && 1 ≤ b.factor && b.factor ≤ 1023) &&
      bandsDisjoint (readBands (readWords e.data))
  else if e.ident == identSetup then e.data.length ≤ 64 && (readSetup e.data).isSome
  else true

/-- R74, R184: a chain from its first entry to its ending zero length, `used` bytes from its start; none where an
entry's length is 1, 2 or 3, an entry runs past 448 bytes, no zero length ends the chain within them, or the bytes run
out. -/
def readChain : Nat → Nat → List Byte → Option (List ExtEntry × List Byte)
  | 0, _, _ => none
  | fuel + 1, used, bytes =>
    match takeLe 2 bytes with
    | none => none
    | some (n, rest) =>
      if n == 0 then (if used + 2 ≤ chainLimit then some ([], rest) else none)
      else if n < 4 || chainLimit < used + n || rest.length < n - 2 then none
      else
        match readChain fuel (used + n) (rest.drop (n - 2)) with
        | none => none
        | some (more, rest') =>
          some ({ ident := readLe (rest.take 2), data := (rest.take (n - 2)).drop 2 } :: more, rest')

/-- One lens profile record (10 section 10.6); the zero byte at offset 11 is not read (R183). A record with one of bits 4 to
7 of its speed classes set is refused, and the image with it (notes/assumptions/58.md). -/
def readLensProfile (bytes : List Byte) : Option (LensProfile × List Byte) :=
  match readFields [2, 1, 1, 2, 2, 2, 1, 1] bytes with
  | some ([ident, revision, level, first, last, factor, classes, _], rest) =>
    match readChain 113 0 rest with
    | some (chain, rest') =>
      if classes < 16 then
        some ({ ident, revision, level, first, last, factor, classes := BitVec.ofNat 4 classes, chain }, rest')
      else none
    | none => none
  | _ => none

/-- A record count of 1 byte, then the records laid end to end. -/
def readLensProfiles (bytes : List Byte) : Option (List LensProfile) :=
  match takeLe 1 bytes with
  | some (n, rest) => whole (readMany readLensProfile n rest)
  | none => none

/-- R73: the ranges of a record, and R74: its chain. -/
def lensProfileOk (p : LensProfile) : Bool :=
  p.ident ≤ 65534 && p.first ≤ p.last && 1 ≤ p.factor && p.factor ≤ 1023 && p.classes != 0 && p.chain.all entryOk

/-- R73: at most 32 records, each in order. -/
def lensProfilesOk (t : List LensProfile) : Bool := t.length ≤ 32 && t.all lensProfileOk

/-- R74: the first entry with a known identifier is the one used. -/
def chainFind (ident : Nat) (chain : List ExtEntry) : Option ExtEntry := chain.find? fun e => e.ident == ident

/-- The grid of 221 gains of a chain's SHADING entry, if it has one. -/
def shadingOf (chain : List ExtEntry) : Option (List Nat) := (chainFind identShading chain).map fun e => readWords e.data

/-- The bands of a chain's CONVERSION_BANDS entry. -/
def bandsOf (chain : List ExtEntry) : List Band :=
  match chainFind identBands chain with
  | some e => readBands (readWords e.data)
  | none => []

/-- The entries of a chain's SETUP_LIST entry. -/
def setupOf (chain : List ExtEntry) : List SetupEntry :=
  match chainFind identSetup chain with
  | some e => (readSetup e.data).getD []
  | none => []

end Sys2Proof.Machine
end

