-- ==== Sys2Proof/Machine/Ops.lean ====
section
/-! DEFINITION. The operations every block uses: channels and answers, events, time, and the shot table and page pool
seen as named reads and writes. -/

namespace Sys2Proof.Machine

/-! ## Channels, cells and events -/

/-- The named channel. -/
def chan (s : State) : Channel → Chan
  | .host => s.hostChan
  | .desk => s.deskChan

/-- The named channel changed by `f`. -/
def updChan (ch : Channel) (f : Chan → Chan) (s : State) : State :=
  match ch with
  | .host => { s with hostChan := f s.hostChan }
  | .desk => { s with deskChan := f s.deskChan }

/-- One of a channel's counters changed by `f` (R172). -/
def updCounters (ch : Channel) (f : ChanCounters → ChanCounters) (s : State) : State :=
  updChan ch (fun c => { c with counters := f c.counters }) s

/-- A tether frame from the part to a station, under the settings in force (R144). -/
def frameTo (s : State) (dst : Addr48) (body : FrameBody) : TetherFrame :=
  { dst, src := s.tether.settings.station, frameType := s.tether.settings.frameType, body }

/-- R155: frames made ready in class 1, in the order in which they become ready. -/
def pushFrames (frames : List TetherFrame) (s : State) : State :=
  { s with tether := { s.tether with ready := s.tether.ready ++ frames } }

/-- R166, R150: cells that become ready on a channel. A host cell is discarded while the host link is down, a desk
cell while the tether is not BOUND; a desk cell is carried in a CONTROL frame to the desk address. -/
def sendCells (ch : Channel) (cells : List OutCell) (s : State) : State :=
  match ch with
  | .host =>
    if s.pins.hostUp then { s with control := { s.control with ready := s.control.ready ++ cells } } else s
  | .desk =>
    match s.tether.link, s.tether.desk with
    | .bound, some d => pushFrames (cells.map fun c => frameTo s d (.control c)) s
    | _, _ => s

/-- R166, R168: the answer to a command cell. -/
def answer (ch : Channel) (c : Cell) (status : Status) (args : Payload) (s : State) : State :=
  sendCells ch (answerCells c.tag c.code status args) s

/-- An answer that carries no arguments. -/
def answerBare (ch : Channel) (c : Cell) (status : Status) (s : State) : State :=
  answer ch c status (.bytes []) s

/-- R180: the host channel holds back its notices while the host link is down, the desk channel while the tether is
not BOUND. -/
def canNotify (s : State) : Channel → Bool
  | .host => s.pins.hostUp
  | .desk => s.tether.link == .bound

/-- R180: a NOTICE of the channel's whole latched set is made ready and the notice flag is set. Its tag is 0, its code
EVRD, its status DONE (09 section 9.1). -/
def notify (ch : Channel) (s : State) : State :=
  let notice : OutCell :=
    { kind := .notice, tag := 0, code := codeEVRD, status := .done, continued := false,
      args := latchedBytes (chan s ch).latches }
  sendCells ch [notice] (updChan ch (fun c => { c with notice := true }) s)

/-- R179, R180: an event offered to one channel. -/
def offerEvent (e : Event) (ch : Channel) (s : State) : State :=
  let s' := updChan ch (setLatch e) s
  if noticeDue e (chan s ch) && canNotify s ch then notify ch s' else s'

/-- R179: an event offered to each channel 09 section 9.9 names for it. -/
def raise (e : Event) (s : State) : State :=
  if hostOnly e then offerEvent e .host s else offerEvent e .desk (offerEvent e .host s)

/-- R150, R178: a NOTICE is due where the channel holds a latched event and its notice flag is clear. -/
def notifyIfLatched (ch : Channel) (s : State) : State :=
  if (chan s ch).latches != 0 && !(chan s ch).notice && canNotify s ch then notify ch s else s

/-- R168: the checks before the owner's, in order. `act` is what the owner does with a command that passes them. -/
def checked (ch : Channel) (c : Cell) (act : Cell → State → State) (s : State) : State :=
  match permissionOf c.code with
  | none => answerBare ch c .unknown (updCounters ch (fun k => { k with unknown := satInc k.unknown }) s)
  | some p =>
    if !permittedOn p ch then
      answerBare ch c .denied (updCounters ch (fun k => { k with denied := satInc k.denied }) s)
    else if s.control.opState == .standby && !p.standby then answerBare ch c .state s
    else act c s

/-- R168: the oldest cell leaves the channel's queue and is executed, if it is the one the command names; otherwise
the command cannot occur in this state (log 3, log 4). -/
def runCell (ch : Channel) (named : Cell → Bool) (act : Cell → State → State) (s : State) : State :=
  match (chan s ch).queue with
  | [] => s
  | c :: rest => if named c then checked ch c act (updChan ch (fun k => { k with queue := rest }) s) else s

/-- Execution of a cell by its command code. -/
def runCode (ch : Channel) (code : Word32) (act : Cell → State → State) (s : State) : State :=
  runCell ch (fun c => c.code == code) act s

/-! ## Time -/

/-- A timer that has run `k` microseconds further. -/
def tickTimer (k : Nat) (t : Timer) : Timer := t.map fun n => n - k

def tickLane (k : Nat) (l : Lane) : Lane := { l with timer := tickTimer k l.timer }

def tickIntake (k : Nat) (i : Intake) : Intake :=
  { i with
    patternTimer := tickTimer k i.patternTimer
    lanes := i.lanes.map (tickLane k)
    frame := i.frame.map fun f => { f with staleTimer := tickTimer k f.staleTimer } }

def tickLens (k : Nat) (l : Lens) : Lens :=
  { l with
    settleTimer := tickTimer k l.settleTimer
    answerTimer := tickTimer k l.answerTimer
    waitTimer := tickTimer k l.waitTimer
    driveTimer := tickTimer k l.driveTimer
    reprobeTimer := tickTimer k l.reprobeTimer }

def tickCard (k : Nat) (c : Card) : Card :=
  { c with
    mountTimer := tickTimer k c.mountTimer
    write := c.write.map fun w => { w with timer := tickTimer k w.timer } }

def tickTether (k : Nat) (t : Tether) : Tether :=
  { t with
    negTimer := tickTimer k t.negTimer
    silenceTimer := tickTimer k t.silenceTimer
    transfer := t.transfer.map fun x => { x with timer := tickTimer k x.timer } }

/-- `k` microseconds pass: the time base, a 64-bit count (R172) that wraps to 0 (notes/assumptions/47.md), and every
running timer. -/
def elapse (k : Nat) (s : State) : State :=
  { s with
    control := { s.control with timeBase := (s.control.timeBase + k) % 2 ^ 64 }
    intake := tickIntake k s.intake
    lens := tickLens k s.lens
    cardA := tickCard k s.cardA
    cardB := tickCard k s.cardB
    tether := tickTether k s.tether }

/-- An expiry that happens: the time that remained passes, then the expiry acts; nothing where the timer is stopped
(log 2, log 3). -/
def onExpiry (t : Timer) (act : State → State) (s : State) : State :=
  match t with
  | none => s
  | some k => act (elapse k s)

/-! ## Card slots -/

/-- The named slot. -/
def card (s : State) : CardSlot → Card
  | .a => s.cardA
  | .b => s.cardB

/-- The named slot changed by `f`. -/
def updCard (slot : CardSlot) (f : Card → Card) (s : State) : State :=
  match slot with
  | .a => { s with cardA := f s.cardA }
  | .b => { s with cardB := f s.cardB }

/-- The level of the slot's card-detect line. -/
def cardDetect (s : State) : CardSlot → Bool
  | .a => s.pins.detectA
  | .b => s.pins.detectB

/-- The level of the slot's write-protect line. -/
def cardProtect (s : State) : CardSlot → Bool
  | .a => s.pins.protectA
  | .b => s.pins.protectB

/-- The destination a slot serves (R130). -/
def destOfSlot : CardSlot → Dest
  | .a => .cardA
  | .b => .cardB

/-- The duties of a destination that a card slot serves. -/
def slotOfDest : Dest → Option CardSlot
  | .cardA => some .a
  | .cardB => some .b
  | .desk => none

/-- R140: the states in which slot A counts as unwritable. -/
def unwritable : CardState → Bool
  | .full => true
  | .fault => true
  | .empty => true
  | .writeProtected => true
  | .off => true
  | _ => false

/-- R140: redirect applies, in OVERFLOW mode with slot A unwritable. -/
def redirecting (s : State) : Bool := s.cardMode == .overflow && unwritable s.cardA.state

/-! ## The shot table -/

/-- The record in a slot of the shot table. -/
def shotAt (s : State) (slot : Nat) : Option Shot := s.store.shots.find? fun x => x.slot == slot

/-- The record of a shot number. -/
def shotNumbered (s : State) (n : Nat) : Option Shot := s.store.shots.find? fun x => x.number == some n

/-- The shot table changed by `f`. -/
def updShots (f : List Shot → List Shot) (s : State) : State :=
  { s with store := { s.store with shots := f s.store.shots } }

/-- The record in a slot changed by `f`. -/
def updShot (slot : Nat) (f : Shot → Shot) (s : State) : State :=
  updShots (fun l => l.map fun x => if x.slot == slot then f x else x) s

/-- A record joins the table at its place in slot order. -/
def insertShot (x : Shot) : List Shot → List Shot
  | [] => [x]
  | y :: rest => if x.slot < y.slot then x :: y :: rest else y :: insertShot x rest

/-- The record leaves the table and its slot becomes FREE. -/
def removeShot (slot : Nat) (s : State) : State := updShots (fun l => l.filter fun x => x.slot != slot) s

/-- One rendition of a record changed by `f`. -/
def setRend (r : Rendition) (f : Rend → Rend) (x : Shot) : Shot :=
  match r with
  | .raw => { x with raw := f x.raw }
  | .dev => { x with dev := f x.dev }
  | .prv => { x with prv := f x.prv }

/-- What the pages of a shot's rendition hold. -/
def storedContent (s : State) (slot : Nat) (r : Rendition) : Content :=
  match shotAt s slot with
  | some x => (rendOf x r).content
  | none => .none

/-- The duty of a pair of destination and rendition. -/
def dutyOf (x : Shot) (d : Dest) (r : Rendition) : Option Duty :=
  x.duties.find? fun y => y.dest == d && y.rend == r

/-- The duty of a pair changed by `f`; it keeps its place (R20). -/
def updDuty (d : Dest) (r : Rendition) (f : Duty → Duty) (x : Shot) : Shot :=
  { x with duties := x.duties.map fun y => if y.dest == d && y.rend == r then f y else y }

/-- R7: shot numbers in the order of assignment, when `next` is the next number: a number at or above it was given
before the counter wrapped. -/
def numberKey (next n : Nat) : Nat := if n < next then n + (u32Max + 1) else n

/-- A record's place in the order of assignment. -/
def shotKey (s : State) (x : Shot) : Nat := numberKey s.store.nextNumber (orZero x.number)

/-- An item joins a list before the first item it precedes. -/
def insertBy {α : Type} (before : α → α → Bool) (a : α) : List α → List α
  | [] => [a]
  | b :: rest => if before a b then a :: b :: rest else b :: insertBy before a rest

/-- A list put in order, items that neither precedes the other in the order they stood. -/
def sortBy {α : Type} (before : α → α → Bool) : List α → List α
  | [] => []
  | a :: rest => insertBy (fun x y => before x y || !before y x) a (sortBy before rest)

/-- The numbered records in the order of assignment. -/
def shotsInOrder (s : State) : List Shot :=
  sortBy (fun x y => shotKey s x < shotKey s y) (s.store.shots.filter fun x => x.number.isSome)

/-! ## The page pool -/

/-- R5: the space condition is tested, and a change of it latches the matching event. -/
def spaceTest (s : State) : State :=
  let low := decide (s.store.free.length < s.store.warnLevel)
  if low == s.store.low then s
  else raise (if low then .spaceLow else .spaceOk) { s with store := { s.store with low } }

/-- The free list changes, as one change of the free count (R5). -/
def setFree (free : List Nat) (s : State) : State := spaceTest { s with store := { s.store with free } }

/-- R4: a development page is granted only when the free count after the grant is at or above the floor. -/
def floorAllows (s : State) : Bool := 1 ≤ s.store.free.length && s.store.floor ≤ s.store.free.length - 1

/-- Pages that an output of a byte length takes with its development block (R115). -/
def outputPages (length : Nat) : Nat := unitsFor pageBytes (devBlockBytes + length)

/-- The bytes of an output that `k` pages hold behind its development block. -/
def outputBytesIn (k length : Nat) : Nat := min length (k * pageBytes - devBlockBytes)

/-- The output a development is producing: the first fixed output that has not all its pages (R113). -/
def producing (s : State) : Option (Shot × Rendition) :=
  match s.dev.work with
  | none => none
  | some w =>
    match shotAt s w.slot with
    | none => none
    | some x =>
      match w.outputs.find? fun r =>
        match w.sizes.find? fun z => z.rend == r with
        | none => true
        | some z => (rendOf x r).pages.length < outputPages z.length with
      | none => none
      | some r => some (x, r)

/-- The settled size of an output of the development in progress (R117). -/
def settledSize (s : State) (r : Rendition) : Option OutputSize :=
  match s.dev.work with
  | none => none
  | some w => w.sizes.find? fun z => z.rend == r

/-- R118: the head of the free list joins the end of the output's page list, its byte length rises by what the page
holds, and the engine is DEVELOPING. -/
def grantDevPage (slot : Nat) (z : OutputSize) (s : State) : State :=
  match s.store.free with
  | [] => s
  | p :: rest =>
    let fill (d : Rend) : Rend :=
      { d with pages := d.pages ++ [p], length := outputBytesIn (d.pages.length + 1) z.length }
    setFree rest (updShot slot (setRend z.rend fill) { s with dev := { s.dev with state := .developing } })

/-- R118, R4: the request outstanding in WAIT_SPACE is tested again. -/
def retryWait (s : State) : State :=
  if s.dev.state == .waitSpace && floorAllows s then
    match producing s with
    | none => s
    | some (x, r) =>
      match settledSize s r with
      | none => s
      | some z => grantDevPage x.slot z s
  else s

/-- R2: pages return to the tail of the free list in the order they held; a request waiting for space is then tested
again (R118). -/
def returnPages (pages : List Nat) (s : State) : State :=
  if pages.isEmpty then s else retryWait (setFree (s.store.free ++ pages) s)

end Sys2Proof.Machine
end

