-- ==== Sys2Proof/Machine/Develop.lean ====
section
/-! DEFINITION. The develop queue, the recipe bank's test and the start of a development (06 sections 6.1 to 6.3), and
profile lookup (R75), which development and the lens controller share. -/

namespace Sys2Proof.Machine

/-! ## Profile lookup (R75) -/

/-- R75, step 3: the earlier of two records stays unless the later one has a higher revision. -/
def higherRevision (best : Option LensProfile) (p : LensProfile) : Option LensProfile :=
  match best with
  | none => some p
  | some b => if b.revision < p.revision then some p else some b

/-- R75: the record of a profile ID, of those at or below part level 2 the one of the highest revision, the earliest
where several share it. -/
def lookupProfile (table : List LensProfile) (ident : Nat) : Option LensProfile :=
  (table.filter fun p => p.ident == ident && p.level ≤ partLevel).foldl higherRevision none

/-! ## Recipe bank (R109 to R111) -/

/-- The slot of the bank. -/
def bankSlot (s : State) (i : Nat) : RecipeSlot := s.dev.bank.getD i RecipeSlot.reset

/-- Whether a rendition waits for development or is in it. -/
def inWork (r : Rend) : Bool := r.state == .pending || r.state == .filling

/-- R109, R110: a shot bound to a slot and generation has DEV or PRV in PENDING or FILLING. -/
def generationWanted (s : State) (slot gen : Nat) : Bool :=
  s.store.shots.any fun x =>
    x.recipeSlot == slot && x.recipeGen == gen && (inWork x.dev || inWork x.prv)

/-- R110 for the slots of the bank from number `i` on. -/
def dropPrevious (s : State) : Nat → List RecipeSlot → List RecipeSlot
  | _, [] => []
  | i, b :: rest =>
    (match b.previous with
      | some (g, _) => if generationWanted s i g then b else { b with previous := none }
      | none => b) :: dropPrevious s (i + 1) rest

/-- R110: every slot's previous generation is dropped that no shot still waits on. -/
def previousTest (s : State) : State := { s with dev := { s.dev with bank := dropPrevious s 0 s.dev.bank } }

/-- The neutral recipe (R111). -/
def neutralRecipe : Recipe :=
  { tone := [(0, 0), (65535, 65535)], matrix := [4096, 0, 0, 0, 4096, 0, 0, 0, 4096], gains := [4096, 4096, 4096],
    sharpen := 0, quality := 90, half := false, longEdge := 1024, subject := false, shading := false }

/-- The recipe a development takes: recipe, generation used (0 for the neutral recipe), substitute or not. -/
structure RecipeChoice where
  recipe : Recipe
  generation : Nat
  substituted : Bool
deriving DecidableEq, Repr

/-- The recipe a slot holds under a generation number, as its current or previous generation. -/
def heldRecipe (b : RecipeSlot) (gen : Nat) : Option Recipe :=
  if b.generation == gen && b.current.isSome then b.current
  else
    match b.previous with
    | some (g, r) => if g == gen then some r else none
    | none => none

/-- R111: the bound generation where the slot holds it, else the slot's current generation, else the neutral
recipe. -/
def chooseRecipe (b : RecipeSlot) (gen : Nat) : RecipeChoice :=
  match heldRecipe b gen with
  | some r => { recipe := r, generation := gen, substituted := false }
  | none =>
    match b.current with
    | some r => { recipe := r, generation := b.generation, substituted := true }
    | none => { recipe := neutralRecipe, generation := 0, substituted := true }

/-- R114: the SHADING grid of the record that lookup gives for the profile ID in the shot's snapshot. -/
def shadingFor (s : State) (x : Shot) : Option (List Nat) :=
  match x.lens with
  | none => none
  | some l =>
    match l.profile with
    | none => none
    | some ident => (lookupProfile s.lens.profiles ident).bind fun p => shadingOf p.chain

/-! ## Start of a development (R113) -/

/-- The outputs that are PENDING, DEV before PRV. -/
def pendingOutputs (x : Shot) : List Rendition :=
  (if x.dev.state == .pending then [.dev] else []) ++ (if x.prv.state == .pending then [.prv] else [])

/-- R113, step 2: a fixed output becomes FILLING with an empty page list and byte length 0. -/
def fixOutput (r : Rend) : Rend :=
  if r.state == .pending then { r with state := .filling, pages := [], length := 0, content := .none } else r

/-- R113: the head shot leaves the queue and its development starts. -/
def startDevelopment (x : Shot) (rest : List Nat) (s : State) : State :=
  let choice := chooseRecipe (bankSlot s x.recipeSlot) x.recipeGen
  let grid := if choice.recipe.shading then shadingFor s x else none
  let missing := choice.recipe.shading && grid.isNone
  let work : Work :=
    { slot := x.slot, outputs := pendingOutputs x, recipe := choice.recipe, generation := choice.generation,
      substituted := choice.substituted, shading := grid, shadingMissing := missing, requeue := false, sizes := [] }
  let counters := s.dev.counters
  let mark (y : Shot) : Shot :=
    { y with
      raw := { y.raw with readers := y.raw.readers + 1 }
      dev := fixOutput y.dev
      prv := fixOutput y.prv
      substituted := y.substituted || choice.substituted
      shadingMissing := y.shadingMissing || missing }
  updShot x.slot mark
    { s with
      dev := { s.dev with
        queue := rest
        state := .developing
        work := some work
        counters := { counters with
          substitutions := if choice.substituted then satInc counters.substitutions else counters.substitutions } } }

/-- R113: a development starts whenever the engine is IDLE and the queue is not empty. -/
def startIfIdle (s : State) : State :=
  match s.dev.state, s.dev.queue with
  | .idle, slot :: rest =>
    match shotAt s slot with
    | some x => startDevelopment x rest s
    | none => s
  | _, _ => s

/-! ## The develop queue (R112) -/

/-- R112: editor priority, highest first, then shot number in the order of assignment. -/
def developBefore (s : State) (a b : Nat) : Bool :=
  match shotAt s a, shotAt s b with
  | some x, some y => y.priority < x.priority || (x.priority == y.priority && shotKey s x < shotKey s y)
  | _, _ => false

/-- The shot takes its place in the queue. -/
def enqueueShot (slot : Nat) (s : State) : State :=
  { s with dev := { s.dev with queue := insertBy (developBefore s) slot s.dev.queue } }

/-- Whether the shot is under development. -/
def underDevelopment (s : State) (slot : Nat) : Bool :=
  match s.dev.work with
  | some w => w.slot == slot
  | none => false

/-- R112, R120: a shot whose DEV or PRV became PENDING joins the queue, keeps its place in it, or, under development,
is marked for requeue. -/
def joinQueue (slot : Nat) (s : State) : State :=
  if underDevelopment s slot then
    { s with dev := { s.dev with work := s.dev.work.map fun w => { w with requeue := true } } }
  else if s.dev.queue.contains slot then s
  else startIfIdle (enqueueShot slot s)

/-- R112: a queued shot moves to the place its new priority gives it. -/
def moveInQueue (slot : Nat) (s : State) : State :=
  if s.dev.queue.contains slot then
    enqueueShot slot { s with dev := { s.dev with queue := s.dev.queue.filter fun n => n != slot } }
  else s

/-- R112: a shot none of whose DEV and PRV is PENDING any more leaves the queue. -/
def leaveQueue (slot : Nat) (s : State) : State :=
  match shotAt s slot with
  | some x =>
    if x.dev.state == .pending || x.prv.state == .pending then s
    else { s with dev := { s.dev with queue := s.dev.queue.filter fun n => n != slot } }
  | none => s

/-- R119 step 5 and R121 step 5: after a development with the requeue mark set, the shot joins the queue if it has a
PENDING output. -/
def requeueAfter (w : Work) (s : State) : State :=
  match shotAt s w.slot with
  | some x => if w.requeue && !(pendingOutputs x).isEmpty then enqueueShot w.slot s else s
  | none => s

end Sys2Proof.Machine
end

