-- ==== Sys2Proof/Machine/Store.lean ====
section
/-! DEFINITION. The shot store (01): the need rule, the life of duties and shots, admission, duty creation and the
pages of the raw packer; and the abandonment of a development (R119), which the need rule brings about. -/

namespace Sys2Proof.Machine

/-! ## The need rule (R14) and retirement (R9) -/

/-- A duty on the rendition is OWED or ACTIVE. -/
def wantedByDuty (x : Shot) (r : Rendition) : Bool :=
  x.duties.any fun d => d.rend == r && (d.state == .owed || d.state == .active)

/-- A duty on the rendition is OWED. -/
def owedOn (x : Shot) (r : Rendition) : Bool := x.duties.any fun d => d.rend == r && d.state == .owed

/-- R14: the rendition is needed. -/
def needed (x : Shot) (r : Rendition) : Bool :=
  wantedByDuty x r || (r == .raw && (inWork x.dev || inWork x.prv)) ||
    ((rendOf x r).state == .ready && (x.hostHold || x.deskHold))

/-- The rendition holds nothing: ABSENT or RELEASED. -/
def emptyRend (r : Rend) : Bool := r.state == .absent || r.state == .released

/-- R9: SETTLED, neither hold, every rendition ABSENT or RELEASED. -/
def mayRetire (x : Shot) : Bool :=
  x.state == .settled && !x.hostHold && !x.deskHold && emptyRend x.raw && emptyRend x.dev && emptyRend x.prv

/-- R9: the record is removed, the slot becomes FREE and SHOT_RETIRED latches. -/
def retireTest (slot : Nat) (s : State) : State :=
  match shotAt s slot with
  | some x => if mayRetire x then raise .shotRetired (removeShot slot s) else s
  | none => s

/-- R12: a rendition that gives its pages back; its byte length is kept. -/
def released (r : Rend) : Rend := { r with state := .released, pages := [], content := .none }

/-- R12, R14: the rendition is released, its pages return, and the retirement test follows. -/
def releaseRend (slot : Nat) (r : Rendition) (s : State) : State :=
  match shotAt s slot with
  | some x => retireTest slot (returnPages (rendOf x r).pages (updShot slot (setRend r released) s))
  | none => s

/-- R14: a READY rendition that is not needed and has no reader is released at once. -/
def readyTest (slot : Nat) (r : Rendition) (s : State) : State :=
  match shotAt s slot with
  | some x =>
    if (rendOf x r).state == .ready && (rendOf x r).readers == 0 && !needed x r then releaseRend slot r s else s
  | none => s

/-- R14, R110, R112: a PENDING rendition that is no longer needed becomes RELEASED; the shot leaves the develop queue
when it has no PENDING output left, and the need test on RAW follows. -/
def pendingTest (slot : Nat) (r : Rendition) (s : State) : State :=
  match shotAt s slot with
  | some x =>
    if (rendOf x r).state == .pending && !needed x r then
      readyTest slot .raw
        (previousTest (leaveQueue slot (retireTest slot (updShot slot (setRend r released) s))))
    else s
  | none => s

/-! ## State of a shot (R8) -/

/-- R8: work remains: a duty OWED or ACTIVE, or DEV or PRV PENDING or FILLING. -/
def workRemains (x : Shot) : Bool :=
  x.duties.any (fun d => d.state == .owed || d.state == .active) || inWork x.dev || inWork x.prv

/-- R8: the state the shot's duties and renditions give it. -/
def reassessed (x : Shot) : Shot :=
  match x.state with
  | .opened => if workRemains x then x else { x with state := .settled }
  | .settled => if workRemains x then { x with state := .opened } else x
  | _ => x

/-- R8, R9: the shot's state is reassessed and the retirement test follows. -/
def reassess (slot : Nat) (s : State) : State := retireTest slot (updShot slot reassessed s)

/-! ## Abandonment of a development (R119) -/

/-- R12: a fixed output given up: its partial page list goes back and its byte length returns to 0. -/
def givenUp (r : Rend) : Rend :=
  if r.state == .filling then { r with state := .released, pages := [], length := 0, content := .none } else r

/-- The partial page list of a fixed output. -/
def partialPages (r : Rend) : List Nat := if r.state == .filling then r.pages else []

/-- RAW's reader count falls by one (R13). -/
def dropRawReader (x : Shot) : Shot := { x with raw := { x.raw with readers := x.raw.readers - 1 } }

/-- R119, steps 1 to 6. That DEV's pages return before PRV's, and both as one change of the free count, is the model's
(notes/assumptions/37.md). -/
def abandonDevelopment (w : Work) (x : Shot) (s : State) : State :=
  let counters := { s.dev.counters with abandoned := satInc s.dev.counters.abandoned }
  let idle := { s with dev := { s.dev with state := .idle, work := none, counters } }
  let back := returnPages (partialPages x.dev ++ partialPages x.prv)
    (updShot w.slot (fun y => { y with dev := givenUp y.dev, prv := givenUp y.prv }) idle)
  let tested := reassess w.slot (readyTest w.slot .raw (updShot w.slot dropRawReader back))
  startIfIdle (requeueAfter w (previousTest tested))

/-- R119: the development is abandoned when none of its fixed outputs is still needed. -/
def abandonTest (slot : Nat) (s : State) : State :=
  match s.dev.work, shotAt s slot with
  | some w, some x =>
    if w.slot == slot && !(w.outputs.any fun r => owedOn x r) then abandonDevelopment w x s else s
  | _, _ => s

/-! ## Duties (R15) -/

/-- R15: the need test on the rendition after a duty on it left OWED or ACTIVE, then the reassessment of the shot. -/
def afterDuty (slot : Nat) (r : Rendition) (s : State) : State :=
  match shotAt s slot with
  | none => s
  | some x =>
    match (rendOf x r).state with
    | .ready => reassess slot (readyTest slot r s)
    | .pending => reassess slot (pendingTest slot r s)
    | .filling => if r == .raw then reassess slot s else reassess slot (abandonTest slot s)
    | _ => reassess slot s

/-- R13: the reader count after a duty's move from one state to another. -/
def readersAfter (old new : DutyState) (n : Nat) : Nat :=
  if old == .active && new != .active then n - 1
  else if old != .active && new == .active then n + 1
  else n

/-- A duty moves to a state, with the reason that FAILED and WAIVED carry; its rendition's reader count follows
(R13). -/
def moveDuty (d : Dest) (r : Rendition) (st : DutyState) (reason : Option Reason) (x : Shot) : Shot :=
  match dutyOf x d r with
  | none => x
  | some y =>
    updDuty d r (fun z => { z with state := st, reason })
      (setRend r (fun k => { k with readers := readersAfter y.state st k.readers }) x)

/-- The move on the shot in a slot. -/
def setDuty (slot : Nat) (d : Dest) (r : Rendition) (st : DutyState) (reason : Option Reason) (s : State) : State :=
  updShot slot (moveDuty d r st reason) s

/-- R15: a duty leaves OWED or ACTIVE for MET, FAILED or WAIVED, and the tests follow. -/
def endDuty (slot : Nat) (d : Dest) (r : Rendition) (st : DutyState) (reason : Option Reason) (s : State) : State :=
  afterDuty slot r (setDuty slot d r st reason s)

/-- R17: the expiry time a DESK duty gets: its creation time plus the lifetime in minutes, none for lifetime 0. -/
def expiryAfter (now lifetime : Nat) : Option Nat := if lifetime == 0 then none else some (now + lifetime * minuteUs)

/-- R17: the time base has reached the duty's expiry time. -/
def expired (now : Nat) (d : Duty) : Bool :=
  match d.expiry with
  | none => false
  | some e => e ≤ now

/-- R17, R146: a DESK duty returns from ACTIVE to OWED, and becomes WAIVED EXPIRED at once where its expiry time has
passed. -/
def returnDeskDuty (slot : Nat) (r : Rendition) (s : State) : State :=
  match (shotAt s slot).bind fun x => dutyOf x .desk r with
  | none => s
  | some d =>
    if expired s.control.timeBase d then endDuty slot .desk r .waived (some .expired) s
    else setDuty slot .desk r .owed none s

/-! ## Duty creation (R18, R19) -/

/-- A class entry that routes nothing. -/
def emptyEntry : ClassEntry :=
  let none' : RendSet := { raw := false, dev := false, prv := false }
  { cardA := none', cardB := none', desk := none', policy := .all, lifetime := 0 }

/-- The routing table's entry for a class, as the table now stands (R66). -/
def classEntry (s : State) (cls : Nat) : ClassEntry :=
  match s.store.routing with
  | none => emptyEntry
  | some t => t.getD cls emptyEntry

/-- The renditions of a set in the order RAW, DEV, PRV. -/
def rendList (x : RendSet) : List Rendition :=
  (if x.raw then [.raw] else []) ++ (if x.dev then [.dev] else []) ++ (if x.prv then [.prv] else [])

/-- R19: the policy waives a damaged shot's duty to the destination. -/
def damageWaives (p : DamagedPolicy) (d : Dest) : Bool :=
  match p, d with
  | .discard, _ => true
  | .noDesk, .desk => true
  | _, _ => false

/-- R18, step 1: one duty as it is created. -/
def createdDuty (now : Nat) (damaged : Bool) (e : ClassEntry) (d : Dest) (r : Rendition) : Duty :=
  let waived := damaged && damageWaives e.policy d
  { dest := d, rend := r, state := if waived then .waived else .owed, reason := if waived then some .damaged else none,
    created := now, expiry := if d == .desk then expiryAfter now e.lifetime else none }

/-- R18, step 1: the duties of a class entry, CARD_A, CARD_B, DESK, and within each RAW, DEV, PRV. -/
def routedDuties (now : Nat) (damaged : Bool) (e : ClassEntry) : List Duty :=
  (rendList e.cardA).map (createdDuty now damaged e .cardA) ++
    (rendList e.cardB).map (createdDuty now damaged e .cardB) ++
    (rendList e.desk).map (createdDuty now damaged e .desk)

/-- R135: every OWED duty of a destination becomes FAILED with reason CARD_FAULT. -/
def failOwed (d : Dest) (ds : List Duty) : List Duty :=
  ds.map fun y => if y.dest == d && y.state == .owed then { y with state := .failed, reason := some .cardFault } else y

/-- R140, step 1: a CARD_B duty for the rendition joins the end of the list (R20), unless the shot has one in any
state; it is FAILED at once where slot B is in FAULT (R135). -/
def addCardB (now : Nat) (bFault : Bool) (r : Rendition) (ds : List Duty) : List Duty :=
  if ds.any fun y => y.dest == .cardB && y.rend == r then ds
  else
    ds ++ [{ dest := .cardB, rend := r, state := if bFault then .failed else .owed,
             reason := if bFault then some .cardFault else none, created := now, expiry := none }]

/-- R140, steps 1 and 2, for an OWED CARD_A duty of a list. -/
def redirectOwed (now : Nat) (bFault : Bool) (ds : List Duty) (r : Rendition) : List Duty :=
  if ds.any fun y => y.dest == .cardA && y.rend == r && y.state == .owed then
    (addCardB now bFault r ds).map fun y =>
      if y.dest == .cardA && y.rend == r && y.state == .owed then
        { y with state := .waived, reason := some .redirected }
      else y
  else ds

/-- R18, step 2, and R135: the card duties as the recording engine takes them: CARD_A duties redirected where redirect
applies, and the duties of a slot in FAULT FAILED. -/
def cardTaken (s : State) (ds : List Duty) : List Duty :=
  let bFault := s.cardB.state == .fault
  let a :=
    if redirecting s then [.raw, .dev, .prv].foldl (redirectOwed s.control.timeBase bFault) ds
    else if s.cardA.state == .fault then failOwed .cardA ds
    else ds
  if bFault then failOwed .cardB a else a

/-- R18, step 3: an ABSENT DEV or PRV with a duty still OWED becomes PENDING. -/
def pendIfOwed (r : Rendition) (ds : List Duty) (y : Rend) : Rend :=
  if y.state == .absent && ds.any (fun d => d.rend == r && d.state == .owed) then { y with state := .pending } else y

/-- R18, steps 1 to 3: the record with its duties. -/
def withDuties (s : State) (x : Shot) : Shot :=
  let ds := cardTaken s (routedDuties s.control.timeBase x.damaged (classEntry s x.cls))
  { x with duties := ds, dev := pendIfOwed .dev ds x.dev, prv := pendIfOwed .prv ds x.prv }

/-- R8: the state at duty creation: OPEN if any duty is OWED or DEV or PRV is PENDING, otherwise SETTLED. -/
def createdState (x : Shot) : ShotState :=
  if x.duties.any (fun d => d.state == .owed) || x.dev.state == .pending || x.prv.state == .pending then .opened
  else .settled

/-- R18: the duties of a shot whose RAW is READY, as one operation. -/
def createDuties (slot : Nat) (s : State) : State :=
  match shotAt s slot with
  | none => s
  | some x =>
    let y := { withDuties s x with state := createdState (withDuties s x) }
    let made := updShot slot (fun _ => y) s
    let joined := if (pendingOutputs y).isEmpty then made else joinQueue slot made
    retireTest slot (readyTest slot .raw joined)

/-! ## Admission (R6), numbers (R7), discard (R10) -/

/-- How an admission ends. -/
inductive Admission where
  | admitted (slot : Nat)
  | noSlot
  | noSpace
deriving DecidableEq, Repr

/-- The lowest-numbered FREE slot. -/
def freeSlot (s : State) : Option Nat := (List.range shotSlots).find? fun n => (shotAt s n).isNone

/-- A rendition that has never held anything. -/
def absentRend : Rend := { state := .absent, pages := [], length := 0, readers := 0, content := .none }

/-- R6, steps 3 to 5: the record of a shot at admission. -/
def newShot (s : State) (slot profileSlot : Nat) (p : Profile) (provisional : Bool) : Shot :=
  { slot, number := none, burst := none, state := .exposing, provisional, captureTime := s.control.timeBase,
    profile := profileSlot, cls := p.cls, recipeSlot := p.recipe, recipeGen := (bankSlot s p.recipe).generation,
    reservation := s.store.free.take p.reserve, lens := none, focus := none, damaged := false, filled := 0,
    firstFilled := none, truncated := false, substituted := false, shadingMissing := false,
    raw := { absentRend with state := .filling, content := .raw [] }, dev := absentRend, prv := absentRend,
    duties := [], hostHold := false, deskHold := false, priority := 0, chain := [], readout := none }

/-- R7: the shot takes the next shot number. -/
def takeNumber (slot : Nat) (s : State) : State :=
  updShot slot (fun x => { x with number := some s.store.nextNumber })
    { s with store := { s.store with nextNumber := wrapInc32 s.store.nextNumber } }

/-- R6: admission under a profile: SLOT where no slot is FREE, SPACE where the free count is below the raw reserve;
otherwise the record is written and the pages reserved (R3), and a shot that is not provisional is numbered. -/
def admitShot (profileSlot : Nat) (p : Profile) (provisional : Bool) (s : State) : Admission × State :=
  match freeSlot s with
  | none => (.noSlot, s)
  | some slot =>
    if s.store.free.length < p.reserve then (.noSpace, s)
    else
      let placed := updShots (insertShot (newShot s slot profileSlot p provisional)) s
      let reserved := setFree (s.store.free.drop p.reserve) placed
      (.admitted slot, if provisional then reserved else takeNumber slot reserved)

/-- R10: a provisional shot is discarded: its RAW pages return to the tail of the free list and its slot becomes FREE. -/
def discardShot (slot : Nat) (s : State) : State :=
  match shotAt s slot with
  | none => s
  | some x => returnPages x.raw.pages (removeShot slot s)

/-! ## The raw packer's pages (R3, R12, R42) -/

/-- R3, R12: the next page of a shot's RAW: the first of its reservation, else the head of the free list; none where
both are empty or the page list holds 96. -/
def takeRawPage (slot : Nat) (s : State) : Option State :=
  match shotAt s slot with
  | none => none
  | some x =>
    if maxPages ≤ x.raw.pages.length then none
    else
      match x.reservation, s.store.free with
      | p :: rest, _ =>
        some (updShot slot (fun y =>
          { y with reservation := rest, raw := { y.raw with pages := y.raw.pages ++ [p] } }) s)
      | [], p :: rest =>
        some (setFree rest (updShot slot (fun y => { y with raw := { y.raw with pages := y.raw.pages ++ [p] } }) s))
      | [], [] => none

/-- R3: the reservation ends and its pages return to the tail of the free list. -/
def returnReservation (slot : Nat) (s : State) : State :=
  match shotAt s slot with
  | none => s
  | some x => returnPages x.reservation (updShot slot (fun y => { y with reservation := [] }) s)

end Sys2Proof.Machine
end

