-- ==== Sys2Proof/Machine/Cards.lean ====
section
/-! DEFINITION. The recording engine's operations (07): redirect, the fit test, selection, stops, faults, the placement
log and the slot status. -/

namespace Sys2Proof.Machine

/-! ## Redirect (R140) -/

/-- The OWED duties of a destination in shot number order, and within a shot RAW, DEV, PRV, as table slot and
rendition. -/
def owedDuties (d : Dest) (s : State) : List (Nat × Rendition) :=
  ((shotsInOrder s).map fun x =>
    ([.raw, .dev, .prv].filter fun r => x.duties.any fun y => y.dest == d && y.rend == r && y.state == .owed).map
      fun r => (x.slot, r)).flatten

/-- R140: redirect of one CARD_A duty: the CARD_B duty is created first, the CARD_A duty becomes WAIVED REDIRECTED, and
the tests follow. -/
def redirectDuty (p : Nat × Rendition) (s : State) : State :=
  let bFault := s.cardB.state == .fault
  endDuty p.1 .cardA p.2 .waived (some .redirected)
    (updShot p.1 (fun x => { x with duties := addCardB s.control.timeBase bFault p.2 x.duties }) s)

/-- R140: every OWED CARD_A duty is redirected where redirect applies. -/
def redirectAll (s : State) : State :=
  if redirecting s then (owedDuties .cardA s).foldl (fun t p => redirectDuty p t) s else s

/-- R140: redirect as slot A enters an unwritable state; slot B is never redirected. -/
def redirectFrom (k : CardSlot) (s : State) : State :=
  match k with
  | .a => redirectAll s
  | .b => s

/-! ## Runs of blocks (R128, R131, R136) -/

/-- The blocks of a list of runs. -/
def blockCount (runs : List Run) : Nat := (runs.map fun r => r.count).foldr (· + ·) 0

/-- R131: the fit test from the front of the extent list, at most `k` extents: one run per extent touched. -/
def fitRuns : Nat → Nat → List Run → Option (List Run)
  | 0, _, _ => some []
  | _ + 1, 0, _ => none
  | _ + 1, _ + 1, [] => none
  | n + 1, k + 1, r :: rest =>
    if n + 1 ≤ r.count then some [{ start := r.start, count := n + 1 }]
    else (fitRuns (n + 1 - r.count) k rest).map fun more => r :: more

/-- The first `n` blocks of a list of runs, as runs. -/
def cutRuns : Nat → List Run → List Run
  | 0, _ => []
  | _ + 1, [] => []
  | n + 1, r :: rest =>
    if n + 1 ≤ r.count then [{ start := r.start, count := n + 1 }] else r :: cutRuns (n + 1 - r.count) rest

/-- R128: `n` blocks leave the front of the extent list; an extent whose blocks all leave goes, one whose front blocks
leave stays shortened. -/
def dropBlocks : Nat → List Run → List Run
  | 0, ext => ext
  | _ + 1, [] => []
  | n + 1, r :: rest =>
    if n + 1 < r.count then { start := r.start + (n + 1), count := r.count - (n + 1) } :: rest
    else dropBlocks (n + 1 - r.count) rest

/-- The place in the plan of the run that holds the plan's block number `d`. -/
def runIndex : Nat → List Run → Nat
  | _, [] => 0
  | d, r :: rest => if d < r.count then 0 else runIndex (d - r.count) rest + 1

/-- Two runs share a block. -/
def runsOverlap (a b : Run) : Bool := a.start < b.start + b.count && b.start < a.start + a.count

/-! ## Placement log (R133, R134, R136, R137) -/

/-- R128, R137: a record joins the log, and in the same step its blocks join the used-block record and `ext` is the
extent list they left. -/
def appendRecord (k : CardSlot) (p : Placement) (ext : List Run) (s : State) : State :=
  updCard k (fun c => { c with log := c.log ++ [p], used := c.used ++ p.runs, extents := ext }) s

/-- One of a slot's counters changed by `f` (R141). -/
def updCardCounters (k : CardSlot) (f : CardCounters → CardCounters) (s : State) : State :=
  updCard k (fun c => { c with counters := f c.counters }) s

/-- The slot enters a state. -/
def setCardState (k : CardSlot) (st : CardState) (s : State) : State := updCard k (fun c => { c with state := st }) s

/-- READY where the extent list holds an extent, MOUNTED otherwise. -/
def restState (c : Card) : CardState := if c.extents.isEmpty then .mounted else .ready

/-- R137: the STALLED test. -/
def stalledTest (k : CardSlot) (s : State) : State :=
  let c := card s k
  match c.state with
  | .ready => if stallLogRecords < c.log.length then raise (.cardStalled k) (setCardState k .stalled s) else s
  | .mounted => if stallLogRecords < c.log.length then raise (.cardStalled k) (setCardState k .stalled s) else s
  | .stalled => if c.log.length ≤ stallLogRecords then setCardState k (restState c) s else s
  | _ => s

/-- The slot enters READY or MOUNTED, and the STALLED test follows (R133, R126, R136). -/
def enterRest (k : CardSlot) (s : State) : State := stalledTest k (setCardState k (restState (card s k)) s)

/-! ## Writes (R130 to R136) -/

/-- R131: blocks needed for a write length. -/
def blocksFor (length : Nat) : Nat := unitsFor cardBlockBytes length

/-- R130: the first eligible duty of a destination: OWED, its rendition READY. -/
def eligible (d : Dest) (s : State) : Option (Shot × Rendition) :=
  ((shotsInOrder s).map fun x =>
    ([.raw, .dev, .prv].filter fun r =>
      (rendOf x r).state == .ready && x.duties.any fun y => y.dest == d && y.rend == r && y.state == .owed).map
      fun r => (x, r)).flatten.head?

/-- R132: a write starts under a plan. -/
def startWrite (k : CardSlot) (x : Shot) (r : Rendition) (header : List Byte) (plan : List Run) (s : State) : State :=
  let w : ActiveWrite :=
    { slot := x.slot, number := orZero x.number, rend := r, plan, header,
      length := header.length + (rendOf x r).length, attempt := 1, done := 0, timer := some writeTimerUs }
  updCard k (fun c => { c with state := .writing, write := some w }) (setDuty x.slot (destOfSlot k) r .active none s)

/-- R131: the slot enters FULL and CARD_FULL latches; R140: redirect follows for slot A. -/
def enterFull (k : CardSlot) (s : State) : State := redirectFrom k (raise (.cardFull k) (setCardState k .full s))

/-- R130, R131: a READY slot selects the eligible duty of the lowest shot number and applies the fit test. -/
def selectCard (k : CardSlot) (s : State) : State :=
  if (card s k).state == .ready then
    match eligible (destOfSlot k) s with
    | none => s
    | some (x, r) =>
      let header := headerBytes x r
      match fitRuns (blocksFor (header.length + (rendOf x r).length)) maxRuns (card s k).extents with
      | some plan => startWrite k x r header plan s
      | none => enterFull k s
  else s

/-- A placement record of the active write. -/
def recordOf (k : CardSlot) (w : ActiveWrite) (o : PlacementOutcome) (runs : List Run) : Placement :=
  { card := k, rend := w.rend, outcome := o, number := w.number,
    length := match o with | .file => w.length | .void => 0, runs }

/-- R136: the VOID record of a stopped write: the plan's runs cut after the last block sent. The first block is sent at
the start and each completion sends the next, so one block more is sent than is completed. -/
def appendCutVoid (k : CardSlot) (w : ActiveWrite) (s : State) : State :=
  let runs := cutRuns (w.done + 1) w.plan
  appendRecord k (recordOf k w .void runs) (dropBlocks (blockCount runs) (card s k).extents) s

/-- R136: PLACEMENT_READY latches and the VOID-record counter rises. -/
def voidMade (k : CardSlot) (s : State) : State :=
  raise (.placementReady k) (updCardCounters k (fun c => { c with voids := satInc c.voids }) s)

/-- R136: the active write is stopped with its VOID record; its duty is still ACTIVE. -/
def stopWrite (k : CardSlot) (w : ActiveWrite) (s : State) : State :=
  voidMade k (updCard k (fun c => { c with write := none }) (appendCutVoid k w s))

/-- R125, R127: the active write ends without a record and its duty returns to OWED. -/
def returnWrite (k : CardSlot) (s : State) : State :=
  match (card s k).write with
  | none => s
  | some w =>
    setDuty w.slot (destOfSlot k) w.rend .owed none (updCard k (fun c => { c with write := none }) s)

/-- R124, R125, R127: capacity, extent list, used-block record and placement log are emptied, with no active write. -/
def emptied (c : Card) : Card :=
  { c with capacity := none, extents := [], used := [], log := [], write := none, mountTimer := none }

/-- R135, step 3: every OWED duty of the slot becomes FAILED, one after another in the order of `owedDuties`, the tests of
each before the next (the model's choice, notes/assumptions/50.md). -/
def failDuties (k : CardSlot) (s : State) : State :=
  (owedDuties (destOfSlot k) s).foldl
    (fun t p => endDuty p.1 (destOfSlot k) p.2 .failed (some .cardFault) t) s

/-- R135, step 2: the duty of the write that the fault ended is FAILED, or redirected. -/
def failActive (k : CardSlot) (w : ActiveWrite) (s : State) : State :=
  match k with
  | .a =>
    if redirecting s then redirectDuty (w.slot, w.rend) s
    else endDuty w.slot .cardA w.rend .failed (some .cardFault) s
  | .b => endDuty w.slot .cardB w.rend .failed (some .cardFault) s

/-- R135, step 3, or R140: the OWED duties of the slot fail, or are redirected. -/
def failOrRedirect (k : CardSlot) (s : State) : State :=
  match k with
  | .a => if redirecting s then redirectAll s else failDuties .a s
  | .b => failDuties .b s

/-- R135: the slot enters FAULT; `ended` is the write the fault ended, its record already made. The extent list, the
used-block record and the log are kept; R129: no capacity is known. -/
def enterFault (k : CardSlot) (ended : Option ActiveWrite) (s : State) : State :=
  let s1 := updCard k (fun c => { c with state := .fault, capacity := none, write := none, mountTimer := none }) s
  let s2 := match ended with
    | some w => failActive k w s1
    | none => s1
  raise (.cardFault k) (failOrRedirect k s2)

/-- R135: a fault by over-current or timeout: an active write is first stopped with its VOID record. -/
def faultStopping (k : CardSlot) (s : State) : State :=
  match (card s k).write with
  | some w => enterFault k (some w) (stopWrite k w s)
  | none => enterFault k none s

/-- R25, R136: a waiver of the duty the slot is writing: the write is stopped, the duty becomes WAIVED, and the slot
enters READY or MOUNTED. -/
def waiveWrite (k : CardSlot) (w : ActiveWrite) (reason : Reason) (s : State) : State :=
  enterRest k (endDuty w.slot (destOfSlot k) w.rend .waived (some reason) (stopWrite k w s))

/-- R133: the write completes. -/
def completeWrite (k : CardSlot) (w : ActiveWrite) (s : State) : State :=
  let s1 := appendRecord k (recordOf k w .file w.plan) (dropBlocks (blockCount w.plan) (card s k).extents) s
  let s2 := updCard k (fun c => { c with write := none }) s1
  let s3 := endDuty w.slot (destOfSlot k) w.rend .met none s2
  let s4 := raise (.placementReady k) (updCardCounters k (fun c => { c with completed := satInc c.completed }) s3)
  enterRest k s4

/-- R134: the VOID record of a first error: the runs before the failing run whole, then the whole extent that holds the
failing block. The plan's runs before it are whole extents, so these are the extents up to and with the failing one. -/
def appendErrorVoid (k : CardSlot) (w : ActiveWrite) (s : State) : State :=
  let j := runIndex w.done w.plan + 1
  appendRecord k (recordOf k w .void ((card s k).extents.take j)) ((card s k).extents.drop j) s

/-- R134: the write-error counter rises. -/
def errorMade (k : CardSlot) (s : State) : State :=
  updCardCounters k (fun c => { c with errors := satInc c.errors }) s

/-- R134, step 3: the write restarts under a new fit test with the same header and length, or ends FULL with its duty
OWED. -/
def restartWrite (k : CardSlot) (w : ActiveWrite) (s : State) : State :=
  match fitRuns (blocksFor w.length) maxRuns (card s k).extents with
  | some plan =>
    updCard k (fun c => { c with write := some { w with plan, attempt := 2, done := 0, timer := some writeTimerUs } }) s
  | none => enterFull k (returnWrite k s)

/-- R134: a failed block: in attempt 1 a VOID record and a restart, in attempt 2 a VOID record and FAULT. -/
def failBlock (k : CardSlot) (w : ActiveWrite) (s : State) : State :=
  if w.attempt == 1 then restartWrite k w (errorMade k (voidMade k (appendErrorVoid k w s)))
  else enterFault k (some w) (errorMade k (voidMade k (appendCutVoid k w s)))

/-! ## The block on its way to the card (R132) -/

/-- The card's number of the plan's block number `d`. -/
def planBlock : Nat → List Run → Option Nat
  | _, [] => none
  | d, r :: rest => if d < r.count then some (r.start + d) else planBlock (d - r.count) rest

/-- R132: a byte of a write: the header, then the rendition, then the padding of the last block, whose value the manual
does not give (notes/assumptions/11.md). -/
def writeByte (s : State) (w : ActiveWrite) (offset : Nat) : Byte :=
  if offset < w.length then transferByte w.header (storedContent s w.slot w.rend) offset else Config.cardPadByte offset

/-- R132: what a slot has sent last of its active write, the plan's block behind those completed: its number on the card
and its bytes. -/
def sentBlock (s : State) (k : CardSlot) : Option (Nat × List Byte) :=
  (card s k).write.bind fun w =>
    (planBlock w.done w.plan).map fun b =>
      (b, (List.range cardBlockBytes).map fun i => writeByte s w (w.done * cardBlockBytes + i))

/-! ## Mount and power (R124, R125) -/

/-- R124: the slot enters MOUNTING and asks the card for its capacity. -/
def startMount (k : CardSlot) (s : State) : State :=
  updCard k (fun c => { c with state := .mounting, mountTimer := some mountUs }) s

/-- R124: the mount succeeds. -/
def mounted (k : CardSlot) (capacity : Nat) (s : State) : State :=
  let st : CardState := if cardProtect s k then .writeProtected else .mounted
  let s1 := updCard k (fun c => { emptied c with capacity := some capacity, state := st }) s
  let s2 := raise (.cardReady k) (stalledTest k s1)
  if cardProtect s k then redirectFrom k s2 else s2

/-- R127: a removal. -/
def removeCard (k : CardSlot) (s : State) : State :=
  let s1 := updCard k (fun c => { emptied c with state := .empty }) (returnWrite k s)
  redirectFrom k (raise (.cardRemoved k) s1)

/-- R125: power off. -/
def powerOff (k : CardSlot) (s : State) : State :=
  redirectFrom k (updCard k (fun c => { emptied c with state := .off, power := false }) (returnWrite k s))

/-- R125: power on, from OFF. -/
def powerOnCard (k : CardSlot) (s : State) : State :=
  let s1 := updCard k (fun c => { c with state := .empty, power := true }) s
  if cardDetect s k then startMount k s1 else s1

/-! ## Slot status (R141) -/

def writeStatus (w : ActiveWrite) : WriteStatus :=
  { number := w.number, rend := w.rend, attempt := w.attempt, done := w.done, planned := blockCount w.plan }

/-- R141: the slot status. -/
def slotStatus (s : State) (k : CardSlot) : SlotStatus :=
  let c := card s k
  { state := c.state, power := c.power, detect := cardDetect s k, protect := cardProtect s k, capacity := c.capacity,
    extents := c.extents.length, blocks := blockCount c.extents, records := c.log.length,
    write := c.write.map writeStatus, mode := s.cardMode, counters := c.counters }

end Sys2Proof.Machine
end

