-- ==== Sys2Proof/Machine/Lens.lean ====
section
/-! DEFINITION. The lens controller's operations (04): probe, requests and answers, contract, setup list, drives,
faults; and the focus engine's view of its outstanding drives (R103), which the controller's reports change. -/

namespace Sys2Proof.Machine

/-! ## The focus engine's view (R103, R104) -/

/-- The focus engine changed by `f`. -/
def updFocus (f : Focus → Focus) (s : State) : State := { s with focus := f s.focus }

/-- The lens controller changed by `f`. -/
def updLens (f : Lens → Lens) (s : State) : State := { s with lens := f s.lens }

/-- R103: a request sent: the clamped target becomes the sent target. -/
def viewSent (t : Nat) (s : State) : State := updFocus (fun f => { f with sentTarget := some t }) s

/-- R103: a request queued: the clamped target becomes the queued target. A request it supersedes has left the slot. -/
def viewQueued (t : Nat) (s : State) : State := updFocus (fun f => { f with queuedTarget := some t }) s

/-- R103: a request refused. -/
def viewRefused (s : State) : State :=
  updFocus (fun f => { f with counters := { f.counters with refused := satInc f.counters.refused } }) s

/-- R103: a drive ended: the sent target is cleared. -/
def viewEnded (s : State) : State := updFocus (fun f => { f with sentTarget := none }) s

/-- R103: the queued request moved to in flight. -/
def viewMoved (s : State) : State :=
  updFocus (fun f => { f with sentTarget := f.queuedTarget, queuedTarget := none }) s

/-- R103: the queued request discarded as refused. -/
def viewDiscarded (s : State) : State := viewRefused (updFocus (fun f => { f with queuedTarget := none }) s)

/-! ## Lens state, requests, counters -/

/-- READY and DRIVING: the lens can be driven (R81). -/
def drivable (s : State) : Bool := s.lens.state == .ready || s.lens.state == .driving

/-- One of the controller's counters changed by `f` (R90). -/
def updLensCounters (f : LensCounters → LensCounters) (s : State) : State :=
  updLens (fun l => { l with counters := f l.counters }) s

/-- R76: a lens message that is not the awaited answer is discarded and counted. -/
def unexpectedMessage (s : State) : State :=
  updLensCounters (fun c => { c with unexpected := satInc c.unexpected }) s

/-- R81, R104: the controller enters a state; a change into ABSENT or PROBING clears the focus engine's view. -/
def setLensState (st : LensState) (s : State) : State :=
  let s1 := updLens (fun l => { l with state := st }) s
  if st == .absent || st == .probing then
    updFocus (fun f => { f with sentTarget := none, queuedTarget := none }) s1
  else s1

/-- R76: a request is sent and its answer awaited. -/
def sendRequest (r : LensRequest) (s : State) : State :=
  updLens (fun l =>
    { l with outstanding := some r, misses := 0, answerTimer := some lensAnswerUs, lastSent := some r }) s

/-- R76: the awaited answer has come; its timer and miss count end. -/
def answered (s : State) : State :=
  updLens (fun l => { l with outstanding := none, misses := 0, answerTimer := none }) s

/-- R83, R85, R87, R89: an ABORT is sent to the lens. -/
def sendAbort (s : State) : State :=
  updLensCounters (fun c => { c with aborts := satInc c.aborts }) (updLens (fun l => { l with lastSent := some .abort }) s)

/-- Every timer of the controller is cancelled and no exchange is in progress. -/
def quiet (l : Lens) : Lens :=
  { l with
    outstanding := none, misses := 0, settleTimer := none, answerTimer := none, waitTimer := none,
    driveTimer := none, reprobeTimer := none }

/-! ## Drive slots -/

/-- R88, R89: both slots are emptied: a drive in flight ends and a queued request is reported as refused. -/
def emptySlots (s : State) : State :=
  let s1 := if s.lens.inFlight.isSome then viewEnded s else s
  let s2 := if s.lens.queued.isSome then viewDiscarded s1 else s1
  updLens (fun l => { l with inFlight := none, queued := none }) s2

/-- R82, R86: DRIVE is sent with a fresh drive timer. -/
def sendDrive (target : Nat) (s : State) : State :=
  let cls := match s.lens.contract with
    | some c => c.cls
    | none => 0
  updLensCounters (fun c => { c with drives := satInc c.drives })
    (updLens (fun l =>
      { l with
        state := .driving, inFlight := some target, driveTimer := some (l.driveTimeout * milliUs),
        lastSent := some (.drive target cls) }) s)

/-- R84: after the in-flight drive ended: the queued request is sent, or the controller enters READY. -/
def nextDrive (s : State) : State :=
  match s.lens.queued with
  | some t =>
    viewMoved (sendDrive t (updLens (fun l => { l with queued := none }) s))
  | none => setLensState .ready s

/-- R84: the in-flight drive ends at a position. -/
def endDrive (position : Nat) (s : State) : State :=
  nextDrive (viewEnded (updLens (fun l =>
    { l with inFlight := none, driveTimer := none, position := some position }) s))

/-- R82: a target held within the contract's limits. -/
def clampTarget (c : Contract) (t : Nat) : Nat := min (max t c.first) c.last

/-- R83: the new target is on the other side of the position from the in-flight target. -/
def otherSide (position : Option Nat) (inFlight new : Nat) : Bool :=
  match position with
  | none => false
  | some p => (p < inFlight && new < p) || (inFlight < p && p < new)

/-- R83: the retarget test: ABORT is sent under the answer timeout unless one is outstanding. -/
def retargetTest (new : Nat) (s : State) : State :=
  match s.lens.inFlight with
  | some t =>
    if otherSide s.lens.position t new && s.lens.outstanding != some .abort then sendRequest .abort (sendAbort s) else s
  | none => s

/-- R82, R103: a drive request from the focus engine. -/
def driveRequest (target : Nat) (s : State) : State :=
  match s.lens.contract with
  | none => viewRefused s
  | some c =>
    if drivable s then
      let t := clampTarget c target
      let s1 := if t == target then s else updLensCounters (fun k => { k with clamped := satInc k.clamped }) s
      if s.lens.state == .ready then viewSent t (sendDrive t s1)
      else viewQueued t (retargetTest t (updLens (fun l => { l with queued := some t }) s1))
    else viewRefused s

/-! ## Fault (R88) -/

/-- R88: the controller enters FAULT. The identity, the active profile and the report stay. The drive timer of a drive that
the fault ends is stopped too, also where the fault is an ABORT's second miss (notes/assumptions/55.md). -/
def lensFault (s : State) : State :=
  let s1 := emptySlots s
  let count := s.lens.faultCount
  let s2 := updLens (fun l =>
    { quiet l with
      state := .fault, contract := none, reprobeTimer := if count < 3 then some reprobeUs else none }) s1
  raise .lensFault s2

/-! ## Probe (R71) -/

/-- The mount select lines of each phase, first line high: (1,1), (0,1), (1,0), (0,0). -/
def selectOf : Nat → BitVec 2
  | 0 => 3
  | 1 => 1
  | 2 => 2
  | _ => 0

/-- R71, R77, R78, R79: a probe starts from the first phase; position, aperture, contract and report are cleared. -/
def startProbe (s : State) : State :=
  let s1 := updLens (fun l =>
    { quiet l with
      position := none, aperture := 0, contract := none, report := none, phase := 0, nibbles := 0,
      select := selectOf 0, settleTimer := some settleUs }) s
  setLensState .probing (updLensCounters (fun c => { c with probes := satInc c.probes }) s1)

/-- R72: the first alias entry whose sensed ID matches gives the profile ID; with none it equals the sensed ID. -/
def aliasOf (t : List (Nat × Nat)) (sensed : Nat) : Nat :=
  match t.find? fun e => e.1 == sensed with
  | some e => e.2
  | none => sensed

/-- The controller enters NODRIVE and raises LENS_NODRIVE (R71, R78, R79). -/
def enterNodrive (s : State) : State := raise .lensNodrive (setLensState .nodrive s)

/-- R71: completion of the probe. -/
def completeProbe (sensed : Nat) (s : State) : State :=
  if sensed == 65535 then
    enterNodrive (updLens (fun l =>
      { l with sensed := some sensed, profileId := none, profile := none, select := 0, settleTimer := none }) s)
  else
    let ident := aliasOf s.lens.aliases sensed
    let s1 := updLens (fun l =>
      { l with
        sensed := some sensed, profileId := some ident, profile := lookupProfile l.profiles ident, select := 0,
        settleTimer := none }) s
    sendRequest .capabilityQuery (setLensState .identified s1)

/-- R71: a nibble is read in the phase, and the next combination is driven or the probe is complete. -/
def readNibble (nibble : Nat) (s : State) : State :=
  let value := s.lens.nibbles * 16 + nibble
  let s1 := updLens (fun l =>
    { l with
      nibbles := value, phase := l.phase + 1, select := selectOf (l.phase + 1), settleTimer := some settleUs }) s
  if 3 ≤ s.lens.phase then completeProbe value s1 else s1

/-! ## Negotiation (R78, R79) -/

/-- The classes of the active profile; class 0 alone for an unprofiled lens (R75). -/
def profileClasses (l : Lens) : BitVec 4 :=
  match l.profile with
  | some p => p.classes
  | none => 1

/-- The position range of the active profile; 0 to 65,535 for an unprofiled lens (R75). -/
def profileRange (l : Lens) : Nat × Nat :=
  match l.profile with
  | some p => (p.first, p.last)
  | none => (0, 65535)

/-- R78: the common classes. -/
def commonClasses (l : Lens) : BitVec 4 :=
  match l.report with
  | some r => r.classes &&& profileClasses l
  | none => 0

/-- R78: the common range. -/
def commonRange (l : Lens) : Nat × Nat :=
  match l.report with
  | some r => (max r.first (profileRange l).1, min r.last (profileRange l).2)
  | none => profileRange l

/-- The highest class of a set below `n`. -/
def highestBelow (classes : BitVec 4) : Nat → Option Nat
  | 0 => none
  | n + 1 => if classes.getLsbD n then some n else highestBelow classes n

/-- R78, R79: an OFFER of a class with the common range. -/
def offerClass (cls : Nat) (s : State) : State :=
  let range := commonRange s.lens
  sendRequest (.offer cls range.1 range.2) (updLens (fun l => { l with offered := cls }) s)

/-- R78: what follows a good capability report. -/
def afterReport (s : State) : State :=
  let range := commonRange s.lens
  match highestBelow (commonClasses s.lens) 4 with
  | none => enterNodrive s
  | some cls =>
    if range.2 < range.1 then enterNodrive s
    else offerClass cls (updLens (fun l => { l with waits := 0 }) (setLensState .negotiating s))

/-! ## Setup list (R80) -/

/-- The setup list of the active profile. -/
def setupList (l : Lens) : List SetupEntry :=
  match l.profile with
  | some p => setupOf p.chain
  | none => []

/-- R80, R81, R88: READY from NEGOTIATING. -/
def enterReady (s : State) : State :=
  raise .lensReady (setLensState .ready (updLens (fun l => { l with faultCount := 0 }) s))

/-- R80: the request of the next setup entry, or READY after the last. -/
def nextSetup (s : State) : State :=
  match (setupList s.lens)[s.lens.setupDone]? with
  | none => enterReady s
  | some e =>
    match e.op with
    | .set => sendRequest (.paramWrite e.index e.value) s
    | _ => sendRequest (.paramRead e.index) s

/-- R80: a value read combined with the entry's value, bit by bit. -/
def combine (e : SetupEntry) (value : Nat) : Nat :=
  match e.op with
  | .set => e.value
  | .or => value ||| e.value
  | .and => value &&& e.value

/-! ## What the controller offers others -/

/-- R77: the lens snapshot; none in ABSENT. -/
def lensSnapshot (s : State) : Option LensSnapshot :=
  if s.lens.state == .absent then none
  else
    some { sensed := s.lens.sensed, profile := s.lens.profileId, position := s.lens.position,
           moving := s.lens.inFlight.isSome, aperture := s.lens.aperture }

/-- R74, R75, R98: the conversion factor for a position: the band that covers it, otherwise the default factor; that of
an unprofiled lens in ABSENT and PROBING. -/
def conversionFactor (l : Lens) (position : Option Nat) : Nat :=
  match l.state, l.profile with
  | .absent, _ => 16
  | .probing, _ => 16
  | _, none => 16
  | _, some p =>
    match position with
    | none => p.factor
    | some n =>
      match (bandsOf p.chain).find? fun b => b.first ≤ n && n ≤ b.last with
      | some b => b.factor
      | none => p.factor

/-- R89: the lens status. -/
def lensStatus (s : State) : LensStatus :=
  let l := s.lens
  { state := l.state, sensed := l.sensed, profileId := l.profileId, revision := l.profile.map fun p => p.revision,
    report := l.report, contract := l.contract, inFlight := l.inFlight, queued := l.queued, position := l.position,
    aperture := l.aperture, faultCount := l.faultCount, counters := l.counters }

end Sys2Proof.Machine
end

