-- ==== Sys2Proof/Machine/Focus.lean ====
section
/-! DEFINITION. The focus engine's operations (05): measurement, handover, estimate, history, the state machine, drive
planning, targets and the focus record. -/

namespace Sys2Proof.Machine

/-- One of the engine's counters changed by `f` (R106). -/
def updFocusCounters (f : FocusCounters → FocusCounters) (s : State) : State :=
  updFocus (fun k => { k with counters := f k.counters }) s

/-! ## Targets (R95) -/

/-- R95: the group-0 sites in table order, up to the first 16. -/
def defaultTarget (t : List Site) : List Nat := ((t.filter fun x => x.group == 0).map fun x => x.number).take 16

/-- R95: the target becomes the default target of the table in force, with source DEFAULT. -/
def resetTarget (f : Focus) : Focus := { f with target := defaultTarget f.sites, targetSource := .default }

/-- R100: the miss count, the seek count and the in-band run go to 0. -/
def clearCounts (f : Focus) : Focus := { f with miss := 0, seek := 0, run := 0 }

/-! ## States (R100) -/

/-- R100: entry to OFF. -/
def enterOff (f : Focus) : Focus :=
  clearCounts
    { f with
      state := .off, error := none, inBand := false, inFocus := [], centroid := none, history := [], velocity := 0,
      predicted := none }

/-- R100: entry to IDLE, SEEKING or TRACKING. -/
def enterState (st : FocusState) (f : Focus) : Focus := clearCounts { f with state := st }

/-- R100: the state that an armed engine takes from mode and demand. -/
def armedState (mode : FocusMode) (demand : Bool) (f : Focus) : Focus :=
  match mode, demand with
  | .manual, _ => enterOff f
  | _, false => enterState .idle f
  | .single, true => enterState .seeking f
  | .continuous, true => enterState .tracking f

/-- R100: a change of the demand alone. -/
def demandChanged (mode : FocusMode) (demand : Bool) (f : Focus) : Focus :=
  match f.state, demand with
  | .off, _ => f
  | .idle, true => armedState mode true f
  | .idle, false => f
  | _, true => f
  | _, false => enterState .idle f

/-- R53, R100: capture control's report of the armed condition, the mode and the demand. A report of the mode that stands
while armed, as at an ARMC to another slot of the same focus mode, is no change of mode and moves nothing
(notes/assumptions/62.md). -/
def reportToFocus (mode : Option FocusMode) (demand : Bool) (f : Focus) : Focus :=
  let g := { f with armed := mode.isSome, mode, demand }
  match mode with
  | none => if f.armed then enterOff g else g
  | some m =>
    if f.armed && f.mode == some m then (if f.demand == demand then g else demandChanged m demand g)
    else armedState m demand g

/-! ## Measurement (R93, R94) -/

/-- The samples of a site's window in the phase line it lies on; none where that line was not accepted in the frame. -/
def windowOfSite (m : AwaitedMeasurement) (x : Site) : List Nat :=
  match m.phases.find? fun p => p.1 == x.phaseIndex with
  | none => []
  | some p => (p.2.drop x.column).take x.width

/-- Every sample of a list has the same value. -/
def allEqual : List Nat → Bool
  | [] => true
  | v :: rest => rest.all fun w => w == v

/-- R93: whether a site is measured at all: its phase index names an entry, its window lies within the samples per
line, its phase line was accepted in the frame, and its window's samples are not all the same. -/
def measurable (m : AwaitedMeasurement) (x : Site) : Bool :=
  x.phaseIndex < m.phaseLines.length && x.column + x.width ≤ m.samples && !allEqual (windowOfSite m x)

/-- R93, R94: the reading of one site: free values of the samples of its window, and of nothing else
(notes/assumptions/9.md). -/
def siteReading (m : AwaitedMeasurement) (threshold : Nat) (x : Site) : SiteReading :=
  if measurable m x then
    let window := windowOfSite m x
    let confidence := (Config.windowConfidence window).toNat
    { site := x.number, disparity := (Config.windowDisparity window).toInt, confidence,
      valid := threshold ≤ confidence && confidence != 0 }
  else { site := x.number, disparity := 0, confidence := 0, valid := false }

/-- R93: the measurement set, in table order. -/
def measureAll (m : AwaitedMeasurement) (threshold : Nat) : List SiteReading := m.sites.map (siteReading m threshold)

/-- R93: the oldest measurement awaited of a frame with this counter, and the others in their order
(notes/assumptions/16.md). -/
def takeAwaited (counter : Nat) : List AwaitedMeasurement → Option (AwaitedMeasurement × List AwaitedMeasurement)
  | [] => none
  | m :: rest =>
    if m.counter == counter then some (m, rest) else (takeAwaited counter rest).map fun p => (p.1, m :: p.2)

/-- A site of a measurement that is valid in its set, with its disparity. The site is looked up in the measurement's own
table, also where the target comes from a table installed since the frame closed (notes/assumptions/61.md). -/
def validSite (m : AwaitedMeasurement) (set : List SiteReading) (n : Nat) : Option (Site × Int) :=
  match m.sites.find? (fun x => x.number == n), set.find? (fun r => r.site == n) with
  | some x, some r => if r.valid then some (x, r.disparity) else none
  | _, _ => none

/-- The valid sites of a list of site numbers, in its order. -/
def validOf (m : AwaitedMeasurement) (set : List SiteReading) (target : List Nat) : List (Site × Int) :=
  target.filterMap (validSite m set)

/-- The sum of the weights of valid sites. -/
def weightSum (v : List (Site × Int)) : Int := (v.map fun p => (p.1.weight : Int)).foldr (· + ·) 0

/-- The sum of weight times disparity of valid sites. -/
def weightedDisparity (v : List (Site × Int)) : Int :=
  (v.map fun p => (p.1.weight : Int) * p.2).foldr (· + ·) 0

/-! ## Handover (R97) -/

/-- R97: the target mean, rounded toward zero; none with no valid target site. -/
def targetMean (v : List (Site × Int)) : Option Int :=
  match v with
  | [] => none
  | _ => some ((weightedDisparity v).tdiv (weightSum v))

/-- R97: the first site of the table that may take an invalid site's place. -/
def candidate (m : AwaitedMeasurement) (set : List SiteReading) (mean : Int) (current : List Nat) (invalid : Nat) :
    Option Nat :=
  match m.sites.find? fun x => x.number == invalid with
  | none => none
  | some y =>
    (m.sites.find? fun x =>
      x.group == y.group && !current.contains x.number &&
        match validSite m set x.number with
        | some p => (p.2 - mean).natAbs ≤ 2
        | none => false).map fun x => x.number

/-- R97: the invalid target sites in target order, each handed over where it finds a candidate; the target and the
number of handovers. -/
def handoverFrom (m : AwaitedMeasurement) (set : List SiteReading) (mean : Int) : List Nat → List Nat → List Nat × Nat
  | done, [] => (done, 0)
  | done, n :: rest =>
    match validSite m set n, candidate m set mean (done ++ n :: rest) n with
    | none, some c =>
      let r := handoverFrom m set mean (done ++ [c]) rest
      (r.1, r.2 + 1)
    | _, _ => handoverFrom m set mean (done ++ [n]) rest

/-- R97: handover of a measurement, under either source, which it leaves as it was: a DEFAULT target is changed and stays
DEFAULT (notes/assumptions/56.md). -/
def handover (m : AwaitedMeasurement) (f : Focus) : Focus :=
  match targetMean (validOf m f.set f.target) with
  | none => f
  | some mean =>
    let r := handoverFrom m f.set mean [] f.target
    { f with
      target := r.1
      counters := { f.counters with handovers := satAdd f.counters.handovers r.2 } }

/-! ## Estimate (R98) and history (R99) -/

/-- The centre of a site's window (05 section 5.1). -/
def windowCentre (x : Site) : Nat := x.column + x.width / 2

/-- The image line a site lies on (05 section 5.1). -/
def siteLine (m : AwaitedMeasurement) (x : Site) : Nat := m.phaseLines.getD x.phaseIndex 0

/-- A weighted mean of natural numbers, rounded down. -/
def weightedMean (v : List (Nat × Nat)) : Nat :=
  (v.map fun p => p.1 * p.2).foldr (· + ·) 0 / (v.map fun p => p.1).foldr (· + ·) 0

/-- R98: the centroid of the in-focus sites; none when there is none. -/
def centroidOf (m : AwaitedMeasurement) (sites : List Site) : Option (Nat × Nat) :=
  match sites with
  | [] => none
  | _ =>
    some (weightedMean (sites.map fun x => (x.weight, windowCentre x)),
          weightedMean (sites.map fun x => (x.weight, siteLine m x)))

/-- R98: the estimated error in lens steps; none when no target site is valid. -/
def estimateOf (factor : Nat) (v : List (Site × Int)) : Option Int :=
  match v with
  | [] => none
  | _ => some ((weightedDisparity v * (factor : Int)).tdiv (weightSum v))

/-- R98: the error is present and its absolute value is at most the deadband. -/
def withinBand (deadband : Nat) (e : Option Int) : Bool :=
  match e with
  | none => false
  | some v => v.natAbs ≤ deadband

/-- R98: estimate, in band, in-focus sites and centroid from the valid target sites. -/
def estimate (m : AwaitedMeasurement) (factor : Nat) (f : Focus) : Focus :=
  let v := validOf m f.set f.target
  let sharp := v.filter fun p => (p.2 * (factor : Int)).natAbs ≤ f.deadband
  let error := estimateOf factor v
  { f with
    error, inBand := withinBand f.deadband error, inFocus := sharp.map (fun p => p.1.number),
    centroid := centroidOf m (sharp.map fun p => p.1) }

/-- R99: the velocity of a history, newest less oldest over k - 1, rounded toward zero. -/
def velocityOf (h : List Nat) : Int :=
  match h.head?, h.getLast? with
  | some oldest, some newest =>
    if h.length ≤ 1 then 0 else ((newest : Int) - (oldest : Int)).tdiv ((h.length : Int) - 1)
  | _, _ => 0

/-- A position held within 0 to 65,535. -/
def heldPosition (v : Int) : Nat := min v.toNat 65535

/-- R99: the predicted position. -/
def predictedOf (h : List Nat) : Option Nat := h.getLast?.map fun newest => heldPosition ((newest : Int) + velocityOf h)

/-- R99: the history after a measurement at a position. -/
def historyAfter (h : List Nat) (position : Option Nat) : List Nat :=
  match position with
  | none => []
  | some p => if h.length < 4 then h ++ [p] else h.drop 1 ++ [p]

/-- R99: history, velocity and prediction. -/
def recordHistory (f : Focus) : Focus :=
  let h := historyAfter f.history f.measuredPosition
  { f with history := h, velocity := velocityOf h, predicted := predictedOf h }

/-! ## Drive planning (R103) -/

/-- R103: the planned target; none where it cannot be planned. -/
def plannedTarget (f : Focus) : Option Nat :=
  match f.measuredPosition, f.error with
  | some p, some e =>
    match f.state with
    | .tracking => f.predicted.map fun q => heldPosition ((q : Int) + e)
    | _ => some (heldPosition ((p : Int) + e))
  | _, _ => none

/-- R103: a drive is called for. A planned target that is already sent or queued is not counted as unplanned
(notes/assumptions/43.md). -/
def planDrive (s : State) : State :=
  match drivable s, plannedTarget s.focus with
  | true, some t =>
    if s.focus.sentTarget == some t || s.focus.queuedTarget == some t then s
    else driveRequest t (updFocusCounters (fun c => { c with requests := satInc c.requests }) s)
  | _, _ => updFocusCounters (fun c => { c with unplanned := satInc c.unplanned }) s

/-- R101, R102: the measurement is out of band: an error is present and not within the deadband. -/
def outOfBand (f : Focus) : Bool := f.error.isSome && !f.inBand

/-- R101, R102: a drive is planned when the measurement is out of band. -/
def planIfOut (s : State) : State := if outOfBand s.focus then planDrive s else s

/-! ## State machines (R101, R102) -/

/-- R101: the counts of a measurement in SEEKING. -/
def seekCounts (canDrive : Bool) (f : Focus) : Focus :=
  { f with
    run := if f.inBand then f.run + 1 else 0
    miss := if f.error.isNone then f.miss + 1 else 0
    seek := if canDrive then f.seek + 1 else f.seek }

/-- R101: a measurement in SEEKING. -/
def seekStep (s : State) : State :=
  let s1 := updFocus (seekCounts (drivable s)) s
  if 2 ≤ s1.focus.run then raise .focusLocked (updFocus (fun f => { f with state := .locked }) s1)
  else if 12 ≤ s1.focus.seek then raise .focusFail (updFocus (fun f => { f with state := .lost }) s1)
  else if s1.focus.lossLimit ≤ s1.focus.miss then raise .focusLost (updFocus (fun f => { f with state := .lost }) s1)
  else planIfOut s1

/-- R102: a measurement in TRACKING. -/
def trackStep (s : State) : State :=
  let s1 := updFocus (fun f => { f with miss := if f.error.isNone then f.miss + 1 else 0 }) s
  if s1.focus.lossLimit ≤ s1.focus.miss then
    raise .focusLost (updFocus (fun f => resetTarget { f with state := .lost }) s1)
  else planIfOut s1

/-- R102: a measurement in LOST in CONTINUOUS mode: the engine reacquires where a site of the target, the default
target then, is valid. -/
def lostStep (s : State) : State :=
  if s.focus.error.isSome then trackStep (updFocus (fun f => { f with state := .tracking, miss := 0 }) s) else s

/-- R97: handover is tried in SEEKING, LOCKED and TRACKING. -/
def handsOver (st : FocusState) : Bool := st == .seeking || st == .locked || st == .tracking

/-- R97 to R99: the tracking record updated from the measurement. -/
def trackRecord (m : AwaitedMeasurement) (s : State) : State :=
  let factor := conversionFactor s.lens s.focus.measuredPosition
  updFocus (fun f => recordHistory (estimate m factor (if handsOver f.state then handover m f else f))) s

/-- R93, R97 to R103: the engine acts on a measurement by its state. -/
def actOnMeasurement (m : AwaitedMeasurement) (s : State) : State :=
  match s.focus.state, s.focus.mode with
  | .off, _ => s
  | .seeking, _ => seekStep (trackRecord m s)
  | .tracking, _ => trackStep (trackRecord m s)
  | .lost, some .continuous => lostStep (trackRecord m s)
  | _, _ => trackRecord m s

/-- R93: a measurement completes: the set is replaced, and frame and position are recorded. -/
def completeMeasurement (m : AwaitedMeasurement) (s : State) : State :=
  let s1 := updFocus (fun f =>
    { f with
      set := measureAll m f.threshold
      measuredFrame := some m.counter
      measuredPosition := s.lens.position
      counters := { f.counters with measurements := satInc f.counters.measurements } }) s
  actOnMeasurement m s1

/-! ## Site tables and targets from the host (R92, R96) -/

/-- R92: a site table installed in OFF or IDLE. -/
def installQuiet (t : List Site) (f : Focus) : Focus := resetTarget { f with sites := t }

/-- R92: a site table installed in SEEKING, LOCKED, TRACKING or LOST. -/
def installLost (t : List Site) (f : Focus) : Focus :=
  clearCounts { installQuiet t f with error := none, inBand := false, state := .lost }

/-- R92: a site table is installed. -/
def installSites (t : List Site) (s : State) : State :=
  if s.focus.state == .off || s.focus.state == .idle then updFocus (installQuiet t) s
  else raise .focusLost (updFocus (installLost t) s)

/-- R96: an FTGT that changes the target sets the counts to 0 and acts by state and mode. -/
def retarget (f : Focus) : Focus :=
  match f.state, f.mode with
  | .off, _ => clearCounts f
  | .idle, _ => clearCounts f
  | _, some .single => enterState .seeking f
  | _, some .continuous => enterState .tracking f
  | _, _ => clearCounts f

/-- R96: FTGT naming sites, or none for the default target. That a change of the source alone, the sites as they stand, is a
change of the target is the model's choice (notes/assumptions/49.md). -/
def setTarget (sites : List Nat) (f : Focus) : Focus :=
  match sites with
  | [] => if f.targetSource == .default then f else retarget (resetTarget f)
  | _ =>
    if f.targetSource == .host && f.target == sites then f
    else retarget { f with target := sites, targetSource := .host }

/-- R96: the sites an FTGT may name: at most 16, each in the table, none twice. -/
def targetOk (f : Focus) (sites : List Nat) : Bool :=
  sites.length ≤ 16 && sites.all (fun n => n ≤ 95 && f.sites.any fun x => x.number == n) && distinct sites

/-! ## Record and status (R105, R106) -/

/-- R105: the focus record offered for a shot under a focus mode. -/
def focusRecord (s : State) (mode : FocusMode) : Option FocusRecord :=
  let f := s.focus
  if mode == .manual || (!drivable s && f.error.isNone) then none
  else
    some { state := f.state, measuredFrame := f.measuredFrame, inBand := f.inBand, error := f.error,
           position := f.measuredPosition, sites := f.inFocus, centroid := f.centroid }

/-- R106: the focus status. -/
def focusStatus (s : State) : FocusStatus :=
  let f := s.focus
  { state := f.state, mode := f.mode, targetSource := f.targetSource, target := f.target, error := f.error,
    inBand := f.inBand, valid := (f.set.filter fun r => r.valid).length, miss := f.miss, seek := f.seek, run := f.run,
    measuredFrame := f.measuredFrame, sentTarget := f.sentTarget, queuedTarget := f.queuedTarget,
    counters := f.counters }

end Sys2Proof.Machine
end

