-- ==== Sys2Proof/Machine/Capture.lean ====
section
/-! DEFINITION. Capture control's operations (03): release lines, gates, bursts, the pre-capture ring, frame starts and
frame ends. -/

namespace Sys2Proof.Machine

/-- Capture control changed by `f`. -/
def updCapture (f : Capture → Capture) (s : State) : State := { s with capture := f s.capture }

/-! ## Profile, lines, demand (R52, R53) -/

/-- The armed profile. -/
def armedProfile (s : State) : Option Profile :=
  match s.capture.armed with
  | none => none
  | some n => (s.capture.profiles.getD n none)

/-- R52: release is asserted while the RELEASE line is asserted or the fire latch is set. -/
def releaseAsserted (s : State) : Bool := s.pins.release || s.capture.fireLatch

/-- R53: the focus demand. -/
def focusDemand (s : State) : Bool := s.capture.state != .disarmed && (s.pins.focus || releaseAsserted s)

/-- R53: the focus mode of the armed profile, none while capture is DISARMED. -/
def reportedMode (s : State) : Option FocusMode :=
  if s.capture.state == .disarmed then none else (armedProfile s).map fun p => p.focusMode

/-- R53: capture control's report to the focus engine. -/
def reportCapture (s : State) : State := updFocus (reportToFocus (reportedMode s) (focusDemand s)) s

/-- The pre-capture depth of the armed profile. -/
def ringDepth (s : State) : Nat :=
  match armedProfile s with
  | some p => p.depth
  | none => 0

/-- FOCUS is asserted with a pre-capture depth above 0. -/
def wantsRing (s : State) : Bool := s.pins.focus && 1 ≤ ringDepth s

/-! ## Gates (R58) -/

/-- R58: what opens both gates alike. -/
def gateFree (s : State) (p : Profile) : Bool :=
  p.releaseMode == .releasePriority || p.focusMode == .manual || !drivable s ||
    (p.focusMode == .single && s.focus.state == .locked)

/-- R58: the release gate. -/
def releaseGate (s : State) : Bool :=
  match armedProfile s with
  | some p => gateFree s p || p.focusMode == .continuous
  | none => false

/-- R58: the frame gate: CONTINUOUS counts as open only when the tracking record is in band. -/
def frameGate (s : State) (p : Profile) : Bool := gateFree s p || (p.focusMode == .continuous && s.focus.inBand)

/-! ## Burst log (R67) -/

/-- The newest record of a log changed by `f`. -/
def updLast {α : Type} (f : α → α) : List α → List α
  | [] => []
  | [a] => [f a]
  | a :: rest => a :: updLast f rest

/-- The open burst's record changed by `f`. -/
def updBurst (f : BurstRecord → BurstRecord) (s : State) : State :=
  updCapture (fun c => { c with log := updLast f c.log }) s

/-- R67: a record joins the log; the oldest leaves first when it holds 8. -/
def logAppend (log : List BurstRecord) (b : BurstRecord) : List BurstRecord :=
  (if log.length < burstLogRecords then log else log.drop 1) ++ [b]

/-- R67: a burst opens. -/
def openBurst (s : State) : State :=
  let c := s.capture
  let b : BurstRecord :=
    { number := c.nextBurst, profile := c.armed.getD 0, start := s.control.timeBase, first := none, pre := 0, post := 0,
      missedSpace := 0, missedSlot := 0, missedFocus := 0, ended := none }
  updCapture (fun c =>
    { c with log := logAppend c.log b, nextBurst := wrapInc16 c.nextBurst, burstFrames := 0, burstIndex := 0 }) s

/-- R67: a burst ends and BURST_END latches. -/
def endBurst (e : BurstEnd) (s : State) : State := raise .burstEnd (updBurst (fun b => { b with ended := some e }) s)

/-- The number of the newest burst. -/
def burstNumber (s : State) : Nat :=
  match s.capture.log.getLast? with
  | some b => b.number
  | none => 0

/-- R61, R65: a shot takes the burst's number and the next burst index; the first shot number of the burst is kept. -/
def joinBurst (slot : Nat) (s : State) : State :=
  let index := satInc16 s.capture.burstIndex
  let number := (shotAt s slot).bind fun x => x.number
  let s1 := updShot slot (fun x => { x with burst := some (burstNumber s, index) }) s
  updBurst (fun b => { b with first := match b.first with | none => number | some n => some n })
    (updCapture (fun c => { c with burstIndex := index }) s1)

/-! ## The ring (R62 to R65) -/

/-- R65: a shot of the ring is promoted: its provisional flag is cleared and it is numbered. -/
def promoteShot (slot : Nat) (s : State) : State :=
  joinBurst slot (takeNumber slot (updShot slot (fun x => { x with provisional := false }) s))

/-- R65, step 1: HELD shots promoted oldest first, their duties created. -/
def promoteHeld : List Nat → State → State
  | [], s => s
  | slot :: rest, s => promoteHeld rest (createDuties slot (promoteShot slot s))

/-- R65: the ring is promoted and left empty. -/
def promoteRing (s : State) : State :=
  let ring := s.capture.ring
  let exposing := s.capture.ringExposing
  let pre := ring.length + (if exposing.isSome then 1 else 0)
  let s1 := promoteHeld ring s
  let s2 := match exposing with
    | some slot => promoteShot slot s1
    | none => s1
  updBurst (fun b => { b with pre }) (updCapture (fun c => { c with ring := [], ringExposing := none }) s2)

/-- R56, R65, R67: entry to FIRING opens a burst and promotes the ring. -/
def enterFiring (s : State) : State := promoteRing (openBurst (updCapture (fun c => { c with state := .firing }) s))

/-- R58: the release gate retested in AWAITING_FOCUS. -/
def gateTest (s : State) : State :=
  if s.capture.state == .awaitingFocus && releaseGate s then enterFiring s else s

/-- R64: every HELD shot of the ring is discarded, oldest first, and the exposing one leaves the ring. -/
def discardRing (s : State) : State :=
  updCapture (fun c => { c with ring := [], ringExposing := none })
    (s.capture.ring.foldl (fun t slot => discardShot slot t) s)

/-- The capture state set. -/
def setCaptureState (st : CaptureState) (s : State) : State := updCapture (fun c => { c with state := st }) s

/-! ## Assertions and negations (R56, R57) -/

/-- R56: an assertion of release. -/
def assertRelease (s : State) : State :=
  match s.capture.state with
  | .armed => if releaseGate s then enterFiring s else setCaptureState .awaitingFocus s
  | .gathering => if releaseGate s then enterFiring s else setCaptureState .awaitingFocus s
  | _ => s

/-- GATHERING where FOCUS is asserted and the depth is above 0, otherwise ARMED (R57). -/
def restCapture (s : State) : CaptureState := if wantsRing s then .gathering else .armed

/-- R57: a negation of release. -/
def negateRelease (s : State) : State :=
  match s.capture.state with
  | .awaitingFocus =>
    if wantsRing s then setCaptureState .gathering s else setCaptureState .armed (discardRing s)
  | .firing => setCaptureState (restCapture s) (endBurst .released s)
  | .stalled => setCaptureState (restCapture s) (endBurst .released s)
  | .spent => setCaptureState (restCapture s) s
  | _ => s

/-- R56: an assertion of FOCUS. -/
def assertFocus (s : State) : State :=
  if s.capture.state == .armed && 1 ≤ ringDepth s then setCaptureState .gathering s else s

/-- R57: a negation of FOCUS. -/
def negateFocus (s : State) : State :=
  match s.capture.state with
  | .gathering => setCaptureState .armed (discardRing s)
  | .awaitingFocus => discardRing s
  | _ => s

/-- R52: a change of an input of release acts where it changes the condition. -/
def releaseChanged (before : Bool) (s : State) : State :=
  if before == releaseAsserted s then s
  else if releaseAsserted s then assertRelease s
  else negateRelease s

/-! ## Arming (R54, R55) -/

/-- R54: capture is armed in DISARMED and takes the lines and the latch as they stand. -/
def arm (slot : Nat) (s : State) : State :=
  let s1 := reportCapture (updCapture (fun c => { c with armed := some slot, state := .armed }) s)
  if releaseAsserted s1 then assertRelease s1 else if s1.pins.focus then assertFocus s1 else s1

/-- R54: the armed slot changes in ARMED. -/
def rearm (slot : Nat) (s : State) : State := reportCapture (updCapture (fun c => { c with armed := some slot }) s)

/-- A burst is open in FIRING and STALLED. -/
def burstOpen (s : State) : Bool := s.capture.state == .firing || s.capture.state == .stalled

/-- R55: capture is disarmed, as one step. -/
def disarm (s : State) : State :=
  if s.capture.state == .disarmed then s
  else
    let s1 := if burstOpen s then endBurst .disarmed s else s
    let s2 := discardRing s1
    reportCapture (updCapture (fun c => { c with fireLatch := false, armed := none, state := .disarmed }) s2)

/-! ## Frame starts (R59 to R62) -/

/-- R61: the snapshots of an admitted shot. -/
def takeSnapshots (slot : Nat) (p : Profile) (s : State) : State :=
  updShot slot (fun x => { x with lens := lensSnapshot s, focus := focusRecord s p.focusMode }) s

/-- R60, steps 2 to 5: a due frame's shot joins the burst. -/
def dueAdmitted (slot : Nat) (p : Profile) (s : State) : State :=
  let s1 := joinBurst slot (takeSnapshots slot p s)
  let s2 := updBurst (fun b => { b with post := satInc b.post }) (setCaptureState .firing s1)
  let post := match s2.capture.log.getLast? with
    | some b => b.post
    | none => 0
  if p.limit != 0 && post == p.limit then setCaptureState .spent (endBurst .limit s2) else s2

/-- R60: a failed admission: FIRING enters STALLED and CAPTURE_STALL latches. -/
def dueFailed (s : State) : State :=
  if s.capture.state == .firing then raise .captureStall (setCaptureState .stalled s) else s

/-- R60: a due frame; the admitted shot, if any. -/
def dueFrame (slotOfProfile : Nat) (p : Profile) (s : State) : State × Option Nat :=
  if !frameGate s p then (updBurst (fun b => { b with missedFocus := satInc16 b.missedFocus }) s, none)
  else
    match admitShot slotOfProfile p false s with
    | (.admitted slot, s1) => (dueAdmitted slot p s1, some slot)
    | (.noSlot, s1) => (dueFailed (updBurst (fun b => { b with missedSlot := satInc16 b.missedSlot }) s1), none)
    | (.noSpace, s1) => (dueFailed (updBurst (fun b => { b with missedSpace := satInc16 b.missedSpace }) s1), none)

/-- R62: a frame offered to the ring. -/
def ringFrame (slotOfProfile : Nat) (p : Profile) (s : State) : State × Option Nat :=
  match admitShot slotOfProfile p true s with
  | (.admitted slot, s1) =>
    (takeSnapshots slot p (updCapture (fun c => { c with ringExposing := some slot }) s1), some slot)
  | (_, s1) => (updCapture (fun c => { c with skips := satInc c.skips }) s1, none)

/-- R59: a frame counted in the burst, and tested as a due frame if it is due. -/
def burstFrame (slotOfProfile : Nat) (p : Profile) (s : State) : State × Option Nat :=
  let due := s.capture.burstFrames % p.interval == 0
  let s1 := updCapture (fun c => { c with burstFrames := c.burstFrames + 1 }) s
  if due then dueFrame slotOfProfile p s1 else (s1, none)

/-- R59: a frame start, by the capture state; the answer is the admitted shot or none. -/
def frameStartCapture (s : State) : State × Option Nat :=
  match s.capture.armed, armedProfile s with
  | some n, some p =>
    match s.capture.state with
    | .gathering => ringFrame n p s
    | .awaitingFocus => if wantsRing s then ringFrame n p s else (s, none)
    | .firing => burstFrame n p s
    | .stalled => burstFrame n p s
    | _ => (s, none)
  | _, _ => (s, none)

/-! ## Frame ends (R63, R66) -/

/-- R63: a full ring discards its oldest HELD shot. -/
def trimRing (s : State) : State :=
  match s.capture.ring with
  | [] => s
  | oldest :: rest =>
    if ringDepth s ≤ s.capture.ring.length then
      updCapture (fun c => { c with ring := rest, discards := satInc c.discards }) (discardShot oldest s)
    else s

/-- R63: the shot becomes HELD and joins the ring at its newest end. -/
def holdShot (slot : Nat) (s : State) : State :=
  updCapture (fun c => { c with ring := c.ring ++ [slot], ringExposing := none })
    (updShot slot (fun x => { x with state := .held }) s)

/-- R11: RAW becomes READY at frame end. -/
def rawReady (slot : Nat) (s : State) : State :=
  updShot slot (fun x => { x with raw := { x.raw with state := .ready } }) s

/-- R66: the frame end of a frame that has a shot. -/
def frameEndCapture (slot : Nat) (s : State) : State :=
  match shotAt s slot with
  | none => s
  | some x =>
    let s1 := rawReady slot s
    if !x.provisional then createDuties slot s1
    else if s1.capture.ringExposing == some slot then holdShot slot (trimRing s1)
    else discardShot slot s1

/-! ## Capture status (R68) -/

def captureStatus (s : State) : CaptureStatus :=
  let c := s.capture
  { state := c.state, armed := c.armed, fireLatch := c.fireLatch, focus := s.pins.focus, release := s.pins.release,
    held := c.ring.length, exposing := c.ringExposing.isSome, records := c.log.length, nextBurst := c.nextBurst,
    skips := c.skips, discards := c.discards }

end Sys2Proof.Machine
end

