-- ==== Sys2Proof/Machine/Tether.lean ====
section
/-! DEFINITION. The tether engine's operations (08): the transfer queue and selection, transfers, bindings, the mirror,
echo and the port. -/

namespace Sys2Proof.Machine

/-- One of the tether engine's counters changed by `f` (R164). -/
def updTetherCounters (f : TetherCounters → TetherCounters) (s : State) : State :=
  { s with tether := { s.tether with counters := f s.tether.counters } }

/-- The active transfer set or cleared. -/
def setTransfer (t : Option Transfer) (s : State) : State := { s with tether := { s.tether with transfer := t } }

/-! ## Transfer queue (R151) and selection (R152) -/

/-- R151: editor priority, highest first, then the rendition in the rank's order, then the shot number in the order of
assignment. -/
def transferBefore (s : State) (a b : Shot × Rendition) : Bool :=
  let i (r : Rendition) := s.tether.settings.rank.idxOf r
  b.1.priority < a.1.priority ||
    (a.1.priority == b.1.priority &&
      (i a.2 < i b.2 || (i a.2 == i b.2 && shotKey s a.1 < shotKey s b.1)))

/-- R151: the transfer queue, one entry for each OWED DESK duty. -/
def transferQueue (s : State) : List (Shot × Rendition) :=
  sortBy (transferBefore s)
    (s.store.shots.map fun x =>
      ([.raw, .dev, .prv].filter fun r =>
        x.duties.any fun y => y.dest == .desk && y.rend == r && y.state == .owed).map fun r => (x, r)).flatten

/-- R152: an entry that qualifies: its rendition is READY, and it is PRV in PREVIEW mode. -/
def qualifies (s : State) (e : Shot × Rendition) : Bool :=
  (rendOf e.1 e.2).state == .ready && (s.tether.mode != some .preview || e.2 == .prv)

/-- R152: the selected transfer starts in ANNOUNCED, its ANNOUNCE ready to send. -/
def startTransfer (x : Shot) (r : Rendition) (s : State) : State :=
  let header := headerBytes x r
  setTransfer
    (some { slot := x.slot, number := orZero x.number, rend := r, header, summary := summaryBytes x,
            chain := chainBytes x.chain, length := header.length + (rendOf x r).length, phase := .announced,
            announceReady := true, acked := 0, next := 0, highest := 0, expiries := 0, timer := none })
    (setDuty x.slot .desk r .active none s)

/-- R152: BOUND with no active transfer, the first qualifying entry starts. -/
def selectTransfer (s : State) : State :=
  if s.tether.link == .bound && s.tether.transfer.isNone then
    match (transferQueue s).find? (qualifies s) with
    | some (x, r) => startTransfer x r s
    | none => s
  else s

/-! ## Binding and its end (R145 to R148) -/

/-- A duration of whole seconds, in microseconds. -/
def seconds (n : Nat) : Nat := n * secondUs

/-- R146, steps 1 to 4: the binding ends; the link state is LINKED until the cause sets it, and the duty of an active
transfer returns to OWED. Class 1 frames already ready stay (notes/assumptions/45.md). -/
def endBinding (s : State) : State :=
  let cleared : State :=
    { s with
      tether := { s.tether with
        link := .linked, desk := none, silenceTimer := none, mirrorOn := false, mirror := none, transfer := none } }
  match s.tether.transfer with
  | none => cleared
  | some t => returnDeskDuty t.slot t.rend cleared

/-- R148: the negotiation record. -/
def setRecord (mode : Option Mode) (window : Nat) (result : NegResult) (s : State) : State :=
  { s with tether := { s.tether with mode, window, result } }

/-- The engine enters a link state. -/
def setLink (l : LinkState) (s : State) : State := { s with tether := { s.tether with link := l } }

/-- R145, R148: LINKED with result NOT_BOUND, the negotiation timer started. -/
def enterLinked (s : State) : State :=
  let t := s.tether
  { s with
    tether := { t with
      link := .linked, mode := none, window := 0, result := .notBound,
      negTimer := some (seconds t.settings.negotiation) } }

/-- R145: DOWN: the negotiation timer is stopped, and the class 1 frames not yet taken are lost with the link
(log 18). -/
def enterDown (s : State) : State :=
  { s with tether := { s.tether with link := .down, negTimer := none, silenceTimer := none, ready := [] } }

/-- R146, R149, R157: a binding ends with result LOST and TETHER_LOST latches. Mode and window are cleared
(notes/assumptions/44.md). -/
def loseBinding (s : State) : State := raise .tetherLost (setRecord none 0 .lost (endBinding s))

/-- R145: link down or power off. From BOUND, mode and window are cleared (notes/assumptions/44.md). -/
def linkLost (s : State) : State :=
  match s.tether.link with
  | .bound => raise .tetherLost (enterDown (setRecord none 0 .lost (endBinding s)))
  | _ => enterDown s

/-- R145: link up with power on, or power set on with the link up, in DOWN. -/
def linkGained (s : State) : State :=
  if s.tether.link == .down && s.tether.settings.power && s.pins.etherUp then enterLinked s else s

/-- R147: the modes an OFFER names, by their bits (10 section 10.3); bits 3 to 7 are ignored (notes/assumptions/46.md). -/
def offersMode (modes : Byte) : Mode → Bool
  | .windowed => modes.getLsbD 0
  | .basic => modes.getLsbD 1
  | .preview => modes.getLsbD 2

/-- The window of a mode (08 section 8.3). -/
def windowOf (limit : Nat) : Mode → Nat
  | .windowed => min 16 limit
  | _ => 1

/-- R147: the mode the part takes: the first of its preference list that the OFFER names, where the desk window limit
is 1 to 16. -/
def chosenMode (s : State) (modes limit : Byte) : Option Mode :=
  if 1 ≤ limit.toNat && limit.toNat ≤ 16 then s.tether.settings.preferences.find? (offersMode modes) else none

/-- R147: a refusal. -/
def refuseOffer (src : Addr48) (s : State) : State :=
  let s1 := setRecord none 0 .refused (setLink .linked s)
  pushFrames [frameTo s1 src (.answer false none 0)] s1

/-- R147, R150: a binding; the desk channel is told that it is bound. -/
def bind (src : Addr48) (m : Mode) (limit : Nat) (s : State) : State :=
  let t := s.tether
  let s1 : State :=
    { s with
      tether := { t with
        link := .bound, desk := some src, mode := some m, window := windowOf limit m, result := .bound m,
        silenceTimer := some (seconds t.settings.silence) } }
  let s2 := pushFrames [frameTo s1 src (.answer true (some m) (windowOf limit m))] s1
  notifyIfLatched .desk (raise .tetherBound s2)

/-- R147, R148: an OFFER in LINKED or BOUND: a binding ends first, and the negotiation timer stops. -/
def negotiate (src : Addr48) (modes limit : Byte) (s : State) : State :=
  let s1 := if s.tether.link == .bound then endBinding s else s
  let s2 : State := { s1 with tether := { s1.tether with negTimer := none } }
  match chosenMode s2 modes limit with
  | some m => bind src m limit.toNat s2
  | none => refuseOffer src s2

/-! ## Received frames (R143, R149, R162) -/

/-- R143: the engine takes the frame as a tether frame; in DOWN no frame reaches it. -/
def takesFrame (s : State) (e : Envelope) : Bool :=
  s.tether.link != .down && e.frameType == s.tether.settings.frameType &&
    (e.dst == s.tether.settings.station || e.dst == broadcast)

/-- The frame comes from the desk of the binding. -/
def fromDesk (s : State) (e : Envelope) : Bool := s.tether.link == .bound && s.tether.desk == some e.src

/-- R149: a frame from the desk address reloads the silence timer. -/
def reloadSilence (e : Envelope) (s : State) : State :=
  if fromDesk s e then
    { s with tether := { s.tether with silenceTimer := some (seconds s.tether.settings.silence) } }
  else s

/-- R162: the frame is returned unchanged to its source. -/
def echoFrame (e : Envelope) (i : Instr) (s : State) : State :=
  let src := if e.dst == broadcast then s.tether.settings.station else e.dst
  updTetherCounters (fun c => { c with echoed := satInc c.echoed })
    (pushFrames [{ dst := e.src, src, frameType := e.frameType, body := .echoed (receivedBody i) }] s)

/-- R143: a frame from the port: ignored, echoed, or handled after the silence timer is reloaded. -/
def receive (e : Envelope) (i : Instr) (handle : State → State) (s : State) : State :=
  if !takesFrame s e then s
  else if s.tether.link == .echo then echoFrame e i s
  else handle (reloadSilence e s)

/-- R143: the malformed-frame counter rises. -/
def countMalformed (s : State) : State := updTetherCounters (fun c => { c with malformed := satInc c.malformed }) s

/-- R143, R159: the unexpected-frame counter rises. -/
def countUnexpected (s : State) : State := updTetherCounters (fun c => { c with unexpected := satInc c.unexpected }) s

/-- R143: the foreign-source counter rises. -/
def countForeign (s : State) : State := updTetherCounters (fun c => { c with foreign := satInc c.foreign }) s

/-- R156: the ignored-ACK counter rises. -/
def ignoreAck (s : State) : State := updTetherCounters (fun c => { c with ignoredAcks := satInc c.ignoredAcks }) s

/-- R143: an ACK, ABORT or CONTROL frame by link state: discarded in LINKED, counted as foreign from another source in
BOUND, acted on from the desk address. -/
def fromBoundDesk (e : Envelope) (act : State → State) (s : State) : State :=
  if s.tether.link != .bound then countUnexpected s
  else if fromDesk s e then act s
  else countForeign s

/-! ## Transfers (R153 to R160) -/

/-- A duration of milliseconds, in microseconds. -/
def millis (n : Nat) : Nat := n * milliUs

/-- R153: the multiples of 1,408, and the transfer length. -/
def isBoundary (length offset : Nat) : Bool := offset % blockBytes == 0 || offset == length

/-- R158: the transfer completes. -/
def completeTransfer (t : Transfer) (s : State) : State :=
  let s1 := endDuty t.slot .desk t.rend .met none (setTransfer none s)
  updTetherCounters (fun c => { c with completed := satInc c.completed }) (raise .deskDelivered s1)

/-- R153: the resume ACK. An ANNOUNCE that still waits for the port, the first of the transfer or a repeated one, is
dropped unsent (notes/assumptions/35.md). -/
def resumeAck (t : Transfer) (offset : Nat) (s : State) : State :=
  if offset == t.length then completeTransfer t s
  else
    setTransfer
      (some { t with acked := offset, next := offset, highest := offset, expiries := 0, timer := none,
                     phase := .sending, announceReady := false }) s

/-- R156: an ACK that raises the acknowledged offset. -/
def advanceAck (t : Transfer) (offset : Nat) (s : State) : State :=
  if offset == t.length then completeTransfer t s
  else
    let next := max t.next offset
    setTransfer
      (some { t with acked := offset, next, expiries := 0,
                     timer := if offset < next then some (millis s.tether.settings.acknowledgement) else none }) s

/-- R153, R156: an ACK from the desk. -/
def takeAck (number : Nat) (r : Rendition) (offset : Nat) (s : State) : State :=
  match s.tether.transfer with
  | none => ignoreAck s
  | some t =>
    if t.number != number || t.rend != r || !isBoundary t.length offset then ignoreAck s
    else
      match t.phase with
      | .announced => if offset ≤ t.length then resumeAck t offset s else ignoreAck s
      | .sending => if t.acked < offset && offset ≤ t.highest then advanceAck t offset s else ignoreAck s

/-- R159: an ABORT from the desk. -/
def takeAbort (number : Nat) (r : Rendition) (s : State) : State :=
  match s.tether.transfer with
  | none => countUnexpected s
  | some t =>
    if t.number != number || t.rend != r then countUnexpected s
    else endDuty t.slot .desk t.rend .waived (some .deskDeclined) (setTransfer none s)

/-- R160: the active transfer is stopped by a waiver: an ABORT is made ready and the duty becomes WAIVED. -/
def stopTransfer (t : Transfer) (reason : Reason) (s : State) : State :=
  let s1 :=
    match s.tether.desk with
    | some d => pushFrames [frameTo s d (.abort t.number t.rend)] s
    | none => s
  endDuty t.slot .desk t.rend .waived (some reason) (setTransfer none s1)

/-- R157: the acknowledgement timer expires. -/
def ackExpiry (t : Transfer) (s : State) : State :=
  let s1 := updTetherCounters (fun c => { c with ackTimeouts := satInc c.ackTimeouts }) s
  if 3 ≤ t.expiries + 1 then loseBinding s1
  else
    match t.phase with
    | .announced => setTransfer (some { t with expiries := t.expiries + 1, timer := none, announceReady := true }) s1
    | .sending => setTransfer (some { t with expiries := t.expiries + 1, timer := none, next := t.acked }) s1

/-! ## The mirror (R161) -/

/-- R161: a completed live frame offered to the engine. -/
def offerMirror (f : LiveFrame) (s : State) : State :=
  if s.tether.link == .bound && s.tether.mirrorOn then
    let s1 := if s.tether.mirror.isSome then
        updTetherCounters (fun c => { c with mirrorDropped := satInc c.mirrorDropped }) s
      else s
    if f.total == 0 then { s1 with tether := { s1.tether with mirror := none } }
    else { s1 with tether := { s1.tether with mirror := some { sequence := f.sequence, image := f.image, total := f.total, sent := 0 } } }
  else s

/-- R161: MIRR off empties the buffer. -/
def setMirror (on : Bool) (s : State) : State :=
  { s with tether := { s.tether with mirrorOn := on, mirror := if on then s.tether.mirror else none } }

/-! ## The port (R155) -/

/-- The frame the port takes is sent under the station address and frame type now in force (R144); an echoed frame is
unchanged (R162). -/
def sentAs (s : State) (f : TetherFrame) : TetherFrame :=
  match f.body with
  | .echoed _ => f
  | _ => { f with src := s.tether.settings.station, frameType := s.tether.settings.frameType }

/-- The port takes a frame. -/
def portTakes (f : TetherFrame) (s : State) : State := { s with tether := { s.tether with lastSent := some (frameBytes (sentAs s f)) } }

/-- R154: the unacknowledged count. -/
def unacknowledged (t : Transfer) : Nat := unitsFor blockBytes (t.next - t.acked)

/-- R154: a BLOCK is ready to send. -/
def blockReady (s : State) (t : Transfer) : Bool :=
  t.phase == .sending && unacknowledged t < s.tether.window && t.next < t.length

/-- R152: the port takes the ANNOUNCE and the acknowledgement timer starts. -/
def sendAnnounce (d : Addr48) (t : Transfer) (s : State) : State :=
  let f := frameTo s d (.announce t.number t.rend t.length t.summary t.chain)
  updTetherCounters (fun c => { c with announces := satInc c.announces })
    (setTransfer (some { t with announceReady := false, timer := some (millis s.tether.settings.acknowledgement) })
      (portTakes f s))

/-- What the pages of the transfer's rendition hold. -/
def transferContent (s : State) (t : Transfer) : Content := storedContent s t.slot t.rend

/-- R154: the port takes the next BLOCK. -/
def sendBlock (d : Addr48) (t : Transfer) (s : State) : State :=
  let size := min blockBytes (t.length - t.next)
  let last := t.next + size
  let f := frameTo s d (.block t.number t.rend t.next (transferBytes t.header (transferContent s t) t.next size))
  let count (c : TetherCounters) : TetherCounters :=
    { c with blocks := satInc c.blocks, resent := if last ≤ t.highest then satInc c.resent else c.resent }
  updTetherCounters count
    (setTransfer
      (some { t with
        next := last
        highest := max t.highest last
        timer := if t.next == t.acked then some (millis s.tether.settings.acknowledgement) else t.timer })
      (portTakes f s))

/-- R161: the port takes the next MIRROR fragment. -/
def sendFragment (d : Addr48) (m : MirrorFrame) (s : State) : State :=
  let size := min blockBytes (m.total - m.sent)
  let data := (List.range size).map fun i => liveByte m.image (m.sent + i)
  let f := frameTo s d (.mirror m.sequence m.total m.sent data)
  let s1 := portTakes f s
  updTetherCounters (fun c => { c with fragments := satInc c.fragments })
    { s1 with
      tether := { s1.tether with
        mirror := if m.sent + size < m.total then some { m with sent := m.sent + size } else none } }

/-- R155: class 2, then class 3, with no class 1 frame ready. -/
def portTakesLower (s : State) : State :=
  match s.tether.desk with
  | none => s
  | some d =>
    let fragment :=
      match s.tether.mirror with
      | some m => sendFragment d m s
      | none => s
    match s.tether.transfer with
    | none => fragment
    | some t =>
      if t.announceReady then sendAnnounce d t s
      else if blockReady s t then sendBlock d t s
      else fragment

/-- R155: the port takes the next frame of the highest class that has one ready; in DOWN it takes nothing. -/
def portTakesNext (s : State) : State :=
  if s.tether.link == .down then s
  else
    match s.tether.ready with
    | f :: rest => portTakes f { s with tether := { s.tether with ready := rest } }
    | [] => if s.tether.link == .bound then portTakesLower s else s

/-! ## Tether status (R164) -/

def transferStatus (t : Transfer) : TransferStatus :=
  { number := t.number, rend := t.rend, phase := t.phase, length := t.length, acked := t.acked, next := t.next,
    expiries := t.expiries }

/-- R164: the tether status. -/
def tetherStatus (s : State) : TetherStatus :=
  let t := s.tether
  { link := t.link, etherUp := s.pins.etherUp, settings := t.settings, desk := t.desk, mode := t.mode,
    window := t.window, result := t.result, mirror := t.mirrorOn,
    mirrorFrame := t.mirror.map fun m => (m.sequence, m.sent), transfer := t.transfer.map transferStatus,
    queue := (transferQueue s).map fun e => (orZero e.1.number, e.2), counters := t.counters }

end Sys2Proof.Machine
end

