-- ==== Sys2Proof/Machine/Intake.lean ====
section
/-! DEFINITION. The sensor intake's operations (02): lanes and line parts, the frame assembler, the raw packer, live
view, the pattern generator and injected readout. -/

namespace Sys2Proof.Machine

/-- The intake changed by `f`. -/
def updIntake (f : Intake → Intake) (s : State) : State := { s with intake := f s.intake }

/-- One of the intake's counters changed by `f` (R49). -/
def updIntakeCounters (f : IntakeCounters → IntakeCounters) (s : State) : State :=
  updIntake (fun i => { i with counters := f i.counters }) s

/-- The open frame changed by `f`. -/
def updFrame (f : OpenFrame → OpenFrame) (s : State) : State :=
  updIntake (fun i => { i with frame := i.frame.map f }) s

/-- The element at a place of a list changed by `f`. -/
def updNth {α : Type} (f : α → α) : Nat → List α → List α
  | _, [] => []
  | 0, a :: rest => f a :: rest
  | n + 1, a :: rest => a :: updNth f n rest

/-- One lane changed by `f`. -/
def updLane (lane : Nat) (f : Lane → Lane) (s : State) : State :=
  updIntake (fun i => { i with lanes := updNth f lane i.lanes }) s

/-- R31: the number of lanes in use; none before a geometry is loaded. -/
def lanesInUse (s : State) : Nat :=
  match s.intake.geometry with
  | some g => g.laneCount
  | none => 0

/-- A lane as it stands. -/
def laneAt (s : State) (lane : Nat) : Lane := s.intake.lanes.getD lane Lane.reset

/-- R32: a monitor runs while the source is SENSOR and the part is in RUN. -/
def monitorsRun (s : State) : Bool := s.intake.source == .sensor && s.control.opState == .run

/-- R32: the loss timer from the full loss interval. -/
def fullLoss (s : State) : Timer := some (s.intake.lossInterval * lossUnitUs)

/-- R32: the monitors of the lanes in use start: each LOCKED lane starts its loss timer afresh. -/
def startMonitors (s : State) : State :=
  updIntake (fun i =>
    { i with lanes := i.lanes.map fun l => { l with timer := if l.locked then fullLoss s else none } }) s

/-- R32: the monitors stop and keep their states. -/
def stopMonitors (s : State) : State :=
  updIntake (fun i => { i with lanes := i.lanes.map fun l => { l with timer := none } }) s

/-! ## Geometry in force (R33) -/

/-- R33: the lanes after a change of the lane count: those that leave or enter use are LOST. -/
def lanesAfter (old new : Nat) : Nat → List Lane → List Lane
  | _, [] => []
  | i, l :: rest => (if i < old && i < new then l else Lane.reset) :: lanesAfter old new (i + 1) rest

/-- R33: a table takes effect. -/
def applyGeometry (g : Geometry) (s : State) : State :=
  let old := lanesInUse s
  updIntake (fun i =>
    { i with
      geometry := some g, waitingGeometry := none,
      lanes := if old == g.laneCount then i.lanes else lanesAfter old g.laneCount 0 i.lanes }) s

/-- R33: a table is installed, at once or when the open frame closes. -/
def installGeometry (g : Geometry) (s : State) : State :=
  if s.intake.frame.isSome then updIntake (fun i => { i with waitingGeometry := some g }) s else applyGeometry g s

/-! ## The raw packer (R40 to R43) -/

/-- R42: pages are taken one at a time until the page list holds `need`; false where the store refuses one. -/
def growRaw (slot need : Nat) : Nat → State → State × Bool
  | 0, s => (s, true)
  | fuel + 1, s =>
    match shotAt s slot with
    | none => (s, false)
    | some x =>
      if need ≤ x.raw.pages.length then (s, true)
      else
        match takeRawPage slot s with
        | some s1 => growRaw slot need fuel s1
        | none => (s, false)

/-- R43: the shot is truncated. -/
def truncateShot (slot : Nat) (s : State) : State :=
  updIntakeCounters (fun c => { c with truncated := satInc c.truncated })
    (updFrame (fun f => { f with truncated := true })
      (updShot slot (fun x => { x with truncated := true, damaged := true }) s))

/-- R36: what a fill line written for it does to a shot's integrity fields. -/
def markFilled (number : Nat) (x : Shot) : Shot :=
  { x with
    filled := x.filled + 1, damaged := true,
    firstFilled := match x.firstFilled with | none => some number | some n => some n }

/-- R42: bytes written at the end of RAW. -/
def appendRaw (bytes : List Byte) (r : Rend) : Rend :=
  { r with
    length := r.length + bytes.length,
    content := match r.content with | .raw b => .raw (b ++ bytes) | _ => .raw bytes }

/-- Pages that hold the readout block and `n` bytes behind it. -/
def rawPages (n : Nat) : Nat := unitsFor pageBytes (readoutBlockBytes + n)

/-- R40, R42, R43: a line written for the current shot, or the truncation its page request brings. -/
def packLine (isFill : Bool) (number : Nat) (samples : List Nat) (s : State) : State :=
  match s.intake.frame with
  | none => s
  | some f =>
    match f.shot, f.truncated with
    | some slot, false =>
      match shotAt s slot with
      | none => s
      | some x =>
        let bytes := lineBytes f.geometry number isFill samples
        match growRaw slot (rawPages (x.raw.length + bytes.length)) (maxPages + 1) s with
        | (s1, false) => truncateShot slot s1
        | (s1, true) =>
          let mark (y : Shot) : Shot :=
            let z := { y with raw := appendRaw bytes y.raw }
            if isFill then markFilled number z else z
          updFrame (fun g => { g with lastStored := some number }) (updShot slot mark s1)
    | _, _ => s

/-- R35, R36, R44: an image line goes to the live-view reducer while the frame is being reduced. -/
def reduceLine (samples : List Nat) (s : State) : State :=
  updFrame (fun f => if f.liveBuffer.isSome then { f with reduced := f.reduced ++ [samples] } else f) s

/-- R36: one fill line: packed and reduced as a received line would be, and counted. -/
def fillLine (number : Nat) (s : State) : State :=
  match s.intake.frame with
  | none => s
  | some f =>
    let samples := List.replicate f.geometry.samples f.geometry.fill
    updIntakeCounters (fun c => { c with fills := satInc c.fills })
      (updFrame (fun g => { g with fills := g.fills + 1 }) (reduceLine samples (packLine true number samples s)))

/-- R36: `count` fill lines from a line number on, in ascending order. -/
def fillLines : Nat → Nat → State → State
  | _, 0, s => s
  | number, count + 1, s => fillLines (number + 1) count (fillLine number s)

/-- The first image line not yet accepted or filled. -/
def nextLine (f : OpenFrame) : Nat :=
  match f.lastImage with
  | none => 0
  | some n => n + 1

/-- R42: the completed readout block. -/
def readoutOf (f : OpenFrame) (kind : CloseKind) (x : Shot) : ReadoutBlock :=
  { counter := f.counter, source := f.source, close := kind, laneCount := f.geometry.laneCount,
    depth := f.geometry.depth, runCoding := f.geometry.runCoding, truncated := x.truncated, lines := f.geometry.lines,
    samples := f.geometry.samples, fill := f.geometry.fill, filledCount := x.filled, firstFilled := x.firstFilled,
    lastStored := f.lastStored, rejRange := f.rejRange, rejOrder := f.rejOrder, rejIncomplete := f.rejIncomplete,
    embedded := f.embedded }

/-! ## Live view (R44, R45) -/

/-- R44: the reduction factor. -/
def liveFactor (g : Geometry) : Nat :=
  if g.samples ≤ 1536 * 2 && g.lines ≤ 1024 * 2 then 2
  else if g.samples ≤ 1536 * 4 && g.lines ≤ 1024 * 4 then 4
  else 8

/-- The named live-view buffer. -/
def buffer (s : State) : Nat → LiveBuffer
  | 0 => s.intake.buffer0
  | _ => s.intake.buffer1

/-- The named live-view buffer set. -/
def setBuffer (n : Nat) (b : LiveBuffer) (s : State) : State :=
  match n with
  | 0 => updIntake (fun i => { i with buffer0 := b }) s
  | _ => updIntake (fun i => { i with buffer1 := b }) s

/-- The first buffer in a state, buffer 0 first. -/
def bufferIn (s : State) (st : BufferState) : Option Nat :=
  if s.intake.buffer0.state == st then some 0 else if s.intake.buffer1.state == st then some 1 else none

/-- R45: the live frames dropped counter rises. -/
def countDropped (s : State) : State := updIntakeCounters (fun c => { c with liveDropped := satInc c.liveDropped }) s

/-- R45, frame open: a FREE buffer, buffer 0 first, else the WAITING one, whose frame is dropped, becomes FILLING. -/
def takeBuffer (s : State) : State × Option Nat :=
  match bufferIn s .free with
  | some n => (setBuffer n { state := .filling, frame := none } s, some n)
  | none =>
    match bufferIn s .waiting with
    | some n => (countDropped (setBuffer n { state := .filling, frame := none } s), some n)
    | none => (s, none)

/-- R44: the samples of the whole blocks of factor x factor; what lies past them at the right and bottom edges is left
out. -/
def wholeBlocks (f : OpenFrame) : LiveImage :=
  let factor := liveFactor f.geometry
  let width := f.geometry.samples / factor
  { factor, width, depth := f.geometry.depth,
    lines := (f.reduced.take (f.geometry.lines / factor * factor)).map fun l => l.take (width * factor) }

/-- R44: the live frame of a closing frame. -/
def liveFrameOf (f : OpenFrame) (kind : CloseKind) (s : State) : LiveFrame :=
  let image := wholeBlocks f
  let height := f.geometry.lines / image.factor
  { sequence := s.intake.nextLive, counter := f.counter, damaged := kind != .normal || f.fills != 0,
    number := match f.shot with
      | none => none
      | some slot => (shotAt s slot).bind fun x => if x.provisional then none else x.number,
    image, height, total := image.width * height * 3, sent := 0 }

/-- R45, frame close: where the completed frame's buffer goes. A live frame without a pixel has no unit to send, and its
buffer becomes FREE (notes/assumptions/20.md). -/
def placeLive (n : Nat) (f : LiveFrame) (s : State) : State :=
  if f.total == 0 then setBuffer n LiveBuffer.reset s
  else if s.pins.hostUp && (bufferIn s .sending).isNone then setBuffer n { state := .sending, frame := some f } s
  else
    let other := 1 - n
    let s1 :=
      if (buffer s other).state == .waiting then countDropped (setBuffer other LiveBuffer.reset s) else s
    setBuffer n { state := .waiting, frame := some f } s1

/-- R44, R45, R161: the live frame completes and is offered to the tether engine. -/
def completeLive (f : OpenFrame) (kind : CloseKind) (s : State) : State :=
  match f.liveBuffer with
  | none => s
  | some n =>
    let live := liveFrameOf f kind s
    placeLive n live (offerMirror live (updIntake (fun i => { i with nextLive := wrapInc32 i.nextLive }) s))

/-- R45: a WAITING frame becomes SENDING. -/
def sendWaiting (s : State) : State :=
  match bufferIn s .waiting with
  | some n => setBuffer n { buffer s n with state := .sending } s
  | none => s

/-! ## Frame open and close (R34, R37) -/

/-- R93: the focus engine is told of the close and makes a measurement when a site table is loaded. Measurements that have
not completed are kept in the order of their close, without bound (notes/assumptions/16.md). -/
def awaitMeasurement (f : OpenFrame) (s : State) : State :=
  if s.focus.sites.isEmpty then s
  else
    updFocus (fun k =>
      { k with
        awaited := k.awaited ++
          [{ counter := f.counter, phases := f.phases, phaseLines := f.geometry.phaseLines,
             samples := f.geometry.samples, sites := k.sites }] }) s

/-- R37, step 1: the lines still missing are filled, and a close kind other than NORMAL damages the current shot. -/
def closeFill (kind : CloseKind) (f : OpenFrame) (s : State) : State :=
  let s1 := fillLines (nextLine f) (f.geometry.lines - nextLine f) s
  match kind, f.shot with
  | .normal, _ => s1
  | _, none => s1
  | _, some slot => updShot slot (fun x => { x with damaged := true }) s1

/-- R37, steps 2 to 4, for the frame as it stands after its fill lines. -/
def finishFrame (kind : CloseKind) (f : OpenFrame) (s : State) : State :=
  let s1 := updIntake (fun i => { i with frame := none }) s
  let s2 := if kind == .normal then s1 else updIntakeCounters (fun c => { c with abnormal := satInc c.abnormal }) s1
  let s3 :=
    match f.shot with
    | none => s2
    | some slot => returnReservation slot (updShot slot (fun x => { x with readout := some (readoutOf f kind x) }) s2)
  let s4 := awaitMeasurement f (completeLive f kind s3)
  let s5 :=
    match f.shot with
    | none => s4
    | some slot => frameEndCapture slot s4
  match s5.intake.waitingGeometry with
  | some g => applyGeometry g s5
  | none => s5

/-- R37: the open frame closes. -/
def closeFrame (kind : CloseKind) (s : State) : State :=
  match s.intake.frame with
  | none => s
  | some f =>
    let s1 := closeFill kind f s
    match s1.intake.frame with
    | none => s1
    | some f1 => finishFrame kind f1 s1

/-- R38: the stale timer from the full period. -/
def fullStale (s : State) : Timer := some (s.intake.stalePeriod * staleUnitUs)

/-- R34: a frame opens, under the geometry in force. -/
def openFrame (counter : Nat) (g : Geometry) (s : State) : State :=
  let f : OpenFrame :=
    { counter, lastImage := none, lastPhase := none, embedded := [], rejRange := 0, rejOrder := 0, rejIncomplete := 0,
      staleTimer := fullStale s, geometry := g, source := s.intake.source, shot := none, truncated := false,
      lastStored := none, liveBuffer := none, fills := 0, phases := [], reduced := [] }
  let reduce := s.capture.state != .disarmed
  let s1 := updIntakeCounters (fun c => { c with opened := satInc c.opened })
    (updIntake (fun i => { i with frame := some f }) s)
  let started := frameStartCapture s1
  let s2 :=
    match started.2 with
    | some slot => updFrame (fun k => { k with shot := some slot }) ((takeRawPage slot started.1).getD started.1)
    | none => started.1
  if reduce then
    let taken := takeBuffer s2
    updFrame (fun k => { k with liveBuffer := taken.2 }) taken.1
  else s2

/-! ## Lines in the assembler (R35, R36) -/

/-- A sample as the line holds it: within the sample depth (log 11). -/
def fitSample (depth v : Nat) : Nat := if v < 2 ^ depth then v else Config.overRangeSample depth v % 2 ^ depth

/-- Why a line is rejected. -/
inductive Reject where
  | range
  | order
  | incomplete
deriving DecidableEq, Repr

/-- R35: the rejected line is counted for the frame and for the intake. -/
def rejectLine (r : Reject) (s : State) : State :=
  match r with
  | .range =>
    updIntakeCounters (fun c => { c with rejRange := satInc c.rejRange })
      (updFrame (fun f => { f with rejRange := satInc f.rejRange }) s)
  | .order =>
    updIntakeCounters (fun c => { c with rejOrder := satInc c.rejOrder })
      (updFrame (fun f => { f with rejOrder := satInc f.rejOrder }) s)
  | .incomplete =>
    updIntakeCounters (fun c => { c with rejIncomplete := satInc c.rejIncomplete })
      (updFrame (fun f => { f with rejIncomplete := satInc f.rejIncomplete }) s)

/-- R35: a number not above the last accepted one. -/
def notAbove (number : Nat) (last : Option Nat) : Bool :=
  match last with
  | none => false
  | some n => number ≤ n

/-- R35: the checks on a line, the first that fails. -/
def lineCheck (f : OpenFrame) (kind : LineKind) (number : Nat) (whole : Bool) : Option Reject :=
  match kind with
  | .image =>
    if f.geometry.lines ≤ number then some .range
    else if notAbove number f.lastImage then some .order
    else if whole then none else some .incomplete
  | .phase =>
    if !f.geometry.phaseLines.contains number then some .range
    else if notAbove number f.lastPhase then some .order
    else if whole then none else some .incomplete

/-- R35, R36: an accepted image line: the gap it shows is filled, the line is packed and reduced, and the stale
timer reloaded. -/
def acceptImage (f : OpenFrame) (number : Nat) (samples : List Nat) (s : State) : State :=
  let s1 := reduceLine samples (packLine false number samples (fillLines (nextLine f) (number - nextLine f) s))
  updFrame (fun k => { k with lastImage := some number, staleTimer := fullStale s }) s1

/-- R35: an accepted phase line goes to the focus engine with its phase index. -/
def acceptPhase (f : OpenFrame) (number : Nat) (samples : List Nat) (s : State) : State :=
  updFrame (fun k =>
    { k with
      lastPhase := some number, staleTimer := fullStale s,
      phases := k.phases ++ [(f.geometry.phaseLines.idxOf number, samples)] }) s

/-- R35: a line taken by the assembler, whole or incomplete. Outside a frame it is counted under OUTSIDE_FRAME; in
STANDBY the assembler takes no packet there (log 27). -/
def takeLine (kind : LineKind) (number : Nat) (whole : Bool) (samples : List Nat) (s : State) : State :=
  match s.intake.frame with
  | none =>
    if s.control.opState == .run then updIntakeCounters (fun c => { c with outside := satInc c.outside }) s else s
  | some f =>
    match lineCheck f kind number whole with
    | some r => rejectLine r s
    | none =>
      let fitted := samples.map (fitSample f.geometry.depth)
      match kind with
      | .image => acceptImage f number fitted s
      | .phase => acceptPhase f number fitted s

/-! ## Line parts (R31) -/

/-- Two parts of one line: the same number and kind. -/
def sameLine (a b : LinePart) : Bool := a.number == b.number && a.kind == b.kind

/-- R31: the samples of a whole line: part i holds samples i, i + n, i + 2n and so on. -/
def interleave : Nat → List (List Nat) → List Nat
  | 0, _ => []
  | k + 1, shares => shares.map (fun l => l.headD 0) ++ interleave k (shares.map List.tail)

/-- The share of a lane among the parts of a line. -/
def shareOf (parts : List LinePart) (lane : Nat) : List Nat :=
  match parts.find? fun p => p.lane == lane with
  | some p => p.samples
  | none => []

/-- R31: a lane that is usable: LOCKED, and LOCKED since the open frame's FRAME_START; with no frame open, since the last
FRAME_START taken (notes/assumptions/38.md). -/
def usableLane (s : State) (lane : Nat) : Bool := (laneAt s lane).locked && (laneAt s lane).usable

/-- R31: the usable lanes in use. -/
def usableLanes (s : State) : List Nat := (List.range (lanesInUse s)).filter (usableLane s)

/-- R31: the line of the given parts is taken, whole where every lane in use is usable and has delivered a part with
the right sample count. -/
def takeParts (head : LinePart) (parts : List LinePart) (complete : Bool) (s : State) : State :=
  let n := lanesInUse s
  let samples := match s.intake.frame.map (fun f => f.geometry) <|> s.intake.geometry with
    | some g => g.samples
    | none => 0
  let whole := complete && (usableLanes s).length == n &&
    (List.range n).all fun l => n * (shareOf parts l).length == samples
  takeLine head.kind head.number whole
    (if whole then interleave (samples / n) ((List.range n).map (shareOf parts)) else []) s

/-- The parts held set. -/
def setParts (parts : List LinePart) (s : State) : State := updIntake (fun i => { i with parts }) s

/-- R31: the line of the first part held is taken as incomplete and its parts leave. -/
def takeHeadIncomplete (s : State) : State :=
  match s.intake.parts with
  | [] => s
  | h :: rest => takeParts h [] false (setParts (rest.filter fun p => !sameLine h p) s)

/-- R31: every line begun is taken as incomplete, in the order begun. -/
def flushParts : Nat → State → State
  | 0, s => s
  | fuel + 1, s => if s.intake.parts.isEmpty then s else flushParts fuel (takeHeadIncomplete s)

/-- R31: lines begun are taken as incomplete until the lane has contributed to none. -/
def flushForLane (lane : Nat) : Nat → State → State
  | 0, s => s
  | fuel + 1, s =>
    if s.intake.parts.any fun p => p.lane == lane then flushForLane lane fuel (takeHeadIncomplete s) else s

/-- R31: the first line begun is taken when every usable lane has delivered its part; then the next. With no usable
lane no line is formed from the parts. -/
def takeReady : Nat → State → State
  | 0, s => s
  | fuel + 1, s =>
    match s.intake.parts with
    | [] => s
    | h :: rest =>
      let usable := usableLanes s
      if usable.isEmpty then setParts [] s
      else
        let mine := (h :: rest).filter (sameLine h)
        if usable.all fun l => mine.any fun p => p.lane == l then
          takeReady fuel (takeParts h mine true (setParts (rest.filter fun p => !sameLine h p) s))
        else s

/-- R31: a valid LINE part on a lane in use. Where the lane is not usable the part is dropped: it neither contributes to
a line nor ends one as a further part (notes/assumptions/54.md). -/
def takePart (p : LinePart) (s : State) : State :=
  if !usableLane s p.lane then s
  else
    let s1 := flushForLane p.lane s.intake.parts.length s
    let s2 := setParts (s1.intake.parts ++ [p]) s1
    takeReady s2.intake.parts.length s2

/-! ## Packets in the assembler (R34, R37, R39) -/

/-- R31: at a FRAME_START or FRAME_END on lane 0 the lines begun are taken as incomplete. -/
def flushAll (s : State) : State := flushParts s.intake.parts.length s

/-- R31: at a FRAME_START each LOCKED lane becomes usable. -/
def markUsable (s : State) : State :=
  updIntake (fun i => { i with lanes := i.lanes.map fun l => { l with usable := l.locked } }) s

/-- R34, R37, R39: a FRAME_START taken: an open frame closes NEXT_START, and in RUN a frame opens. -/
def takeFrameStart (counter : Nat) (s : State) : State :=
  let s1 := markUsable (closeFrame .nextStart (flushAll s))
  match s1.control.opState, s1.intake.geometry with
  | .run, some g => openFrame counter g s1
  | _, _ => s1

/-- R37: a stray packet is discarded and counted; in STANDBY the assembler takes no packet outside a frame (log 27). -/
def strayPacket (s : State) : State :=
  if s.control.opState == .run then updIntakeCounters (fun c => { c with stray := satInc c.stray }) s else s

/-- R37: a FRAME_END taken. -/
def takeFrameEnd (s : State) : State :=
  let s1 := flushAll s
  if s1.intake.frame.isSome then closeFrame .normal s1 else strayPacket s1

/-- R37: EMBEDDED data replaces the data held, cut to 256 bytes. -/
def takeEmbedded (data : List Byte) (s : State) : State :=
  if s.intake.frame.isSome then updFrame (fun f => { f with embedded := data.take 256 }) s else strayPacket s

/-! ## Lanes and sensor packets (R31, R32) -/

/-- R32: a lane re-locks: the loss timer is reloaded and LANE_LOCKED latches; it is not usable until the next
FRAME_START. -/
def relock (lane : Nat) (s : State) : State :=
  raise (.laneLocked lane) (updLane lane (fun l => { l with locked := true, timer := fullLoss s }) s)

/-- R32: a sequence on a lane as its monitor sees it: every sequence begins with a sync sequence, which re-locks a
LOST lane (log 13); a valid one reloads a LOCKED lane's loss timer. -/
def monitorSees (lane : Nat) (valid : Bool) (s : State) : State :=
  if !monitorsRun s then s
  else if !(laneAt s lane).locked then relock lane s
  else if valid then updLane lane (fun l => { l with timer := fullLoss s }) s
  else s

/-- R32: a lane becomes LOST and LANE_LOST latches; the lines begun are looked at again. -/
def loseLane (lane : Nat) (s : State) : State :=
  let s1 := raise (.laneLost lane) (updLane lane (fun _ => Lane.reset) s)
  takeReady s1.intake.parts.length s1

/-- R31, R46: a packet on a sensor lane: traffic on a lane not in use is ignored, and so is the sensor's while it is
not the source; a packet whose check fails is discarded and counted. A packet on a lane that is LOST is itself taken
(notes/assumptions/40.md). -/
def sensorPacket (lane : Nat) (checkOk : Bool) (act : State → State) (s : State) : State :=
  if s.intake.source != .sensor || lanesInUse s ≤ lane then s
  else
    let s1 := monitorSees lane checkOk s
    if checkOk then act s1
    else updIntakeCounters (fun c => { c with checkFail := updNth satInc lane c.checkFail }) s1

/-! ## Pattern (R47) -/

/-- R47: the sample of a column. -/
def patternSample (kind : PatternKind) (flat : Nat) (g : Geometry) (c : Nat) : Nat :=
  match kind with
  | .flat => flat
  | .ramp => c * 2 ^ g.depth / g.samples
  | .bars => 8 * c / g.samples * (2 ^ g.depth - 1) / 7

/-- R47: the samples of every line of a pattern frame. -/
def patternLine (i : Intake) (g : Geometry) : List Nat := (List.range g.samples).map (patternSample i.patternKind i.flat g)

/-- R47: the image lines from a number on, each followed at once by the phase line of the same number when it is
listed. -/
def patternLines (g : Geometry) (samples : List Nat) : Nat → Nat → State → State
  | _, 0, s => s
  | number, count + 1, s =>
    let s1 := takeLine .image number true samples s
    let s2 := if g.phaseLines.contains number then takeLine .phase number true samples s1 else s1
    patternLines g samples (number + 1) count s2

/-- R47: a generated frame, delivered whole in one step (log 24). -/
def patternFrame (g : Geometry) (s : State) : State :=
  let s1 := takeFrameStart s.intake.patternCounter s
  takeFrameEnd (patternLines g (patternLine s.intake g) 0 g.lines s1)

/-- R47: a tick of the frame interval. -/
def patternStep (s : State) : State :=
  let s1 := updIntake (fun i => { i with patternTimer := some (i.interval * milliUs) }) s
  match s1.intake.frame, s1.intake.geometry with
  | none, some g =>
    let s2 := if s1.control.opState == .run then patternFrame g s1 else s1
    updIntake (fun i => { i with patternCounter := (i.patternCounter + 1) % 65536 }) s2
  | _, _ => s1

/-! ## Injected readout (R48) -/

/-- The line kinds of an INJECT packet: IMAGE 0, PHASE 1 (10 section 10.2). -/
def lineKindOf : Nat → Option LineKind
  | 0 => some .image
  | 1 => some .phase
  | _ => none

/-- R48: a LINE packet: its number and samples; none where the body length is not 4 plus twice its sample count. -/
def injectLine (body : List Byte) : Option (Nat × List Nat) :=
  match readFields [2, 2] body with
  | some ([number, count], rest) => if rest.length == 2 * count then some (number, readWords rest) else none
  | _ => none

/-- R48: one packet of the four kinds with the body of its kind; none where it is skipped. -/
def injectPacket (kind lineKind : Nat) (body : List Byte) (s : State) : Option State :=
  match kind with
  | 1 => if body.length == 2 then some (takeFrameStart (readLe body) s) else none
  | 2 =>
    match lineKindOf lineKind, injectLine body with
    | some k, some (number, samples) =>
      let expected := match s.intake.frame with
        | some f => f.geometry.samples
        | none => samples.length
      some (takeLine k number (samples.length == expected) samples s)
    | _, _ => none
  | 3 => if body.isEmpty then none else some (takeEmbedded body s)
  | 4 => some (takeFrameEnd s)
  | _ => none

/-- R48: the packets of a unit in order; true where one was skipped or ran past the unit's end, a rest too short for a
packet's head among them (notes/assumptions/41.md). -/
def injectPackets : Nat → List Byte → State → State × Bool
  | 0, _, s => (s, false)
  | fuel + 1, bytes, s =>
    if bytes.isEmpty then (s, false)
    else
      match readFields [1, 1, 4] bytes with
      | some ([kind, lineKind, n], rest) =>
        if rest.length < n then (s, true)
        else
          match injectPacket kind lineKind (rest.take n) s with
          | some s1 => injectPackets fuel (rest.drop n) s1
          | none => ((injectPackets fuel (rest.drop n) s).1, true)
      | _ => (s, true)

/-- R48: an INJECT unit. -/
def takeInject (payload : List Byte) (s : State) : State :=
  if s.intake.source != .inject then
    updIntakeCounters (fun c => { c with injectDiscarded := satInc c.injectDiscarded }) s
  else
    let r := injectPackets payload.length payload s
    if r.2 then updIntakeCounters (fun c => { c with injectMalformed := satInc c.injectMalformed }) r.1 else r.1

/-! ## Source select (R46) and status (R49) -/

/-- What an SRCS names. -/
structure SourceChoice where
  source : Source
  kind : PatternKind
  flat : Nat
  interval : Nat
deriving DecidableEq, Repr

/-- The source and settings in effect. -/
def sourceNow (i : Intake) : SourceChoice :=
  { source := i.source, kind := i.patternKind, flat := i.flat, interval := i.interval }

/-- R46: a change of source or settings: an open frame closes SOURCE, and the new source takes effect; the pattern
counter starts at 0 when the source becomes PATTERN, and a new interval starts from the acceptance (R47). So does the
first interval when the source becomes PATTERN, at whose end the first tick comes (notes/assumptions/59.md). Monitors
stop and start as the source leaves and returns to SENSOR (R32). -/
def changeSource (c : SourceChoice) (s : State) : State :=
  let s1 := closeFrame .source s
  let i := s1.intake
  let became := i.source != .pattern
  let timer := if became || i.interval != c.interval then some (c.interval * milliUs) else i.patternTimer
  let s2 := updIntake (fun k =>
    { k with
      source := c.source, patternKind := c.kind, flat := c.flat, interval := c.interval, parts := [],
      patternCounter := if c.source == .pattern && became then 0 else k.patternCounter,
      patternTimer := if c.source == .pattern then timer else none }) s1
  if c.source != .sensor then stopMonitors s2 else if i.source != .sensor then startMonitors s2 else s2

/-- R49: the intake status. -/
def intakeStatus (s : State) : IntakeStatus :=
  let i := s.intake
  let g := i.geometry
  { source := i.source,
    pattern := if i.source == .pattern then some (i.patternKind, i.flat, i.interval) else none,
    inFrame := i.frame.isSome, lanes := (i.lanes.take (lanesInUse s)).map (fun l => l.locked),
    laneCount := lanesInUse s, lines := orZero (g.map fun k => k.lines), samples := orZero (g.map fun k => k.samples),
    buffer0 := i.buffer0.state, buffer1 := i.buffer1.state, nextLive := i.nextLive, counters := i.counters }

end Sys2Proof.Machine
end

