-- ==== Sys2Proof/Machine/Select.lean ====
section
/-! DEFINITION. What follows a change by itself: card selection (R130), transfer selection (R152) and the release gate
(R58), tested at the end of a command that can bring them about (notes/assumptions/17.md). -/

namespace Sys2Proof.Machine

/-- R130, R152: slot A, then slot B, then the tether engine select. -/
def settle (s : State) : State := selectTransfer (selectCard .b (selectCard .a s))

/-- R58, R104: the release gate is tested again, and selection follows. -/
def finish (s : State) : State := settle (gateTest s)

end Sys2Proof.Machine
end

