-- ==== Sys2Proof/Machine/Channel.lean ====
section
/-! DEFINITION. Meanings of the channel unit's own commands (09): resets, arriving cells, identification, operating
state, events and the host link. -/

namespace Sys2Proof.Machine

/-- Outcome of a command: every command of this block goes on (notes/assumptions/29.md). -/
abbrev Result := Host.Outcome State Fault Refusal

/-! ## Reset (R177) -/

/-- R91: with the lens present line asserted the controller probes at once, as though the lens were just attached. -/
def lensAtReset (s : State) : State :=
  if s.pins.lensPresent then startProbe (raise .lensAttached s) else s

/-- R142: a slot whose card-detect line is asserted mounts. -/
def cardAtReset (k : CardSlot) (s : State) : State := if cardDetect s k then startMount k s else s

/-- R165: with the Ethernet link up the tether engine enters LINKED. -/
def tetherAtReset (s : State) : State := linkGained s

/-- R177: every block at its reset state, under the levels of the lines as they stand; the queue of commands waiting is
outside the part and stays. -/
def partReset (pins : Pins) (s : State) : State :=
  tetherAtReset (cardAtReset .b (cardAtReset .a (lensAtReset { State.reset with pending := s.pending, pins })))

/-- POWER_ON, R177: the lines stand as the command says. -/
def execPowerOn (pins : Pins) (s : State) : Result := .next (partReset pins s)

/-- PART_RESET, R177: it follows a PRST; with none answered it does not occur (notes/assumptions/19.md). -/
def execPartReset (s : State) : Result :=
  .next (if s.control.resetAwaited then partReset s.pins s else s)

/-! ## Cells that reach a channel (R167) -/

/-- R167, for a channel that cells reach: the host channel with its link up, the desk channel while BOUND. -/
def takeCell (ch : Channel) (c : Cell) (s : State) : State :=
  if !canNotify s ch then s
  else
    match c.kind.toNat with
    | 1 =>
      if cellArgBytes < c.argLen.toNat then
        answerBare ch c .badarg (updCounters ch (fun k => { k with malformed := satInc k.malformed }) s)
      else if inputQueueCells ≤ (chan s ch).queue.length then
        answerBare ch c .busy (updCounters ch (fun k => { k with busy := satInc k.busy }) s)
      else updChan ch (fun k => { k with queue := k.queue ++ [c] }) s
    | 2 => updCounters ch (fun k => { k with stray := satInc k.stray }) s
    | 3 => updCounters ch (fun k => { k with stray := satInc k.stray }) s
    | _ => updCounters ch (fun k => { k with malformed := satInc k.malformed }) s

/-- COMMAND_CELL, R167. -/
def execCommandCell (ch : Channel) (cell : Cell) (s : State) : Result := .next (takeCell ch cell s)

/-- MALFORMED_HOST_UNIT, R167: discarded whole and counted; no unit arrives while the host link is down. -/
def execMalformedHostUnit (s : State) : Result :=
  .next (if s.pins.hostUp then updCounters .host (fun k => { k with malformed := satInc k.malformed }) s else s)

/-- UNKNOWN_CODE, R168: a cell whose code is no command code. -/
def execUnknownCode (ch : Channel) (s : State) : Result :=
  .next (runCell ch (fun c => (permissionOf c.code).isNone) (fun _ t => t) s)

/-! ## Identification (R172) -/

/-- R172: the answer of IDNT. -/
def identity (ch : Channel) (s : State) : IdentityAnswer :=
  { part := code4 'P' '6' '4' '0', level := partLevel, channel := ch, opState := s.control.opState, timeBase := s.control.timeBase,
    geometry := s.intake.geometry.isSome, routing := s.store.routing.isSome,
    profiles := (s.capture.profiles.filter fun p => p.isSome).length, sites := s.focus.sites.length,
    generations := s.dev.bank.map fun b => b.generation, lensProfiles := s.lens.profiles.length,
    aliases := s.lens.aliases.length, load := s.control.load.map fun l => (l, s.control.loadBuffer.length),
    mask := (chan s ch).mask, hostCounters := s.hostChan.counters, deskCounters := s.deskChan.counters }

/-- IDNT, R172. -/
def execIdnt (ch : Channel) (s : State) : Result :=
  .next (runCode ch codeIDNT (fun c t => answer ch c .done (.identity (identity ch t)) t) s)

/-! ## Operating state (R170, R171) -/

/-- The operating state set. -/
def setOpState (o : OpState) (s : State) : State := { s with control := { s.control with opState := o } }

/-- R170: a geometry table, a non-empty capture profile slot and a routing table. -/
def readyToRun (s : State) : Bool :=
  s.intake.geometry.isSome && s.capture.profiles.any (fun p => p.isSome) && s.store.routing.isSome

/-- R170, R32: entry to RUN. A frame still open from before STBY stays open (notes/assumptions/39.md). -/
def enterRun (s : State) : State :=
  let s1 := setOpState .run s
  if monitorsRun s1 then startMonitors s1 else s1

/-- RUNM, R170. -/
def execRunm (ch : Channel) (s : State) : Result :=
  .next (runCode ch codeRUNM (fun c t =>
    if t.control.opState == .run then answerBare ch c .done t
    else if readyToRun t then answerBare ch c .done (enterRun t)
    else answerBare ch c .state t) s)

/-- STBY, R171. -/
def execStby (ch : Channel) (s : State) : Result :=
  .next (runCode ch codeSTBY (fun c t => answerBare ch c .done (stopMonitors (setOpState .standby (disarm t)))) s)

/-! ## Part reset command (R177) -/

/-- PRST, R177: the reset follows when the answer has left. -/
def execPrst (ch : Channel) (s : State) : Result :=
  .next (runCode ch codePRST (fun c t =>
    answerBare ch c .done { t with control := { t.control with resetAwaited := true } }) s)

/-! ## Events (R181, R182) -/

/-- EVRD, R181. -/
def execEvrd (ch : Channel) (s : State) : Result :=
  .next (runCode ch codeEVRD (fun c t =>
    answer ch c .done (.bytes (latchedBytes (chan t ch).latches)) (updChan ch clearLatches t)) s)

/-- R182: the answer of EVMK, the mask in force. -/
def answerMask (ch : Channel) (c : Cell) (s : State) : State :=
  answer ch c .done (.bytes (le 4 (chan s ch).mask.toNat)) s

/-- EVMK, R182. -/
def execEvmk (ch : Channel) (s : State) : Result :=
  .next (runCode ch codeEVMK (fun c t =>
    match c.fields with
    | [] => answerMask ch c t
    | [m] =>
      if maskAllowed ch m then answerMask ch c (updChan ch (fun k => { k with mask := BitVec.ofNat 32 m }) t)
      else answerBare ch c .badarg t
    | _ => answerBare ch c .badarg t) s)

/-! ## The host link (R178) -/

/-- The level of the host link. -/
def setHostUp (up : Bool) (s : State) : State := { s with pins := { s.pins with hostUp := up } }

/-- R178, R45: the host link comes up. -/
def hostLinkUp (s : State) : State :=
  sendWaiting (notifyIfLatched .host (raise .hostlinkUp (setHostUp true s)))

/-- HOST_LINK_UP, R178: a change to up. -/
def execHostLinkUp (s : State) : Result := .next (if s.pins.hostUp then s else hostLinkUp s)

/-- R45: a SENDING buffer becomes FREE at host link loss and the frame is lost. -/
def dropSending (s : State) : State :=
  match bufferIn s .sending with
  | some n => setBuffer n LiveBuffer.reset s
  | none => s

/-- R178, steps 1, 3 and 4. -/
def emptyHost (s : State) : State :=
  { s with
    hostChan := { s.hostChan with queue := [], notice := false }
    control := { s.control with load := none, loadBuffer := [], ready := [] } }

/-- R178: the host link goes down; R177: a part reset that was awaited begins. -/
def hostLinkDown (s : State) : State :=
  let s1 := dropSending (emptyHost (setHostUp false s))
  if s1.control.resetAwaited then partReset s1.pins s1 else s1

/-- HOST_LINK_DOWN, R178: a change to down. -/
def execHostLinkDown (s : State) : Result := .next (if s.pins.hostUp then hostLinkDown s else s)

end Sys2Proof.Machine
end

