-- ==== Sys2Proof/Machine/CaptureCommands.lean ====
section
/-! DEFINITION. Meanings of the commands of capture control (03) and of the release lines. -/

namespace Sys2Proof.Machine

/-! ## Arming (R54, R55) -/

/-- The named profile slot is empty. -/
def slotEmpty (s : State) (slot : Nat) : Bool := (s.capture.profiles.getD slot none).isNone

/-- R54: ARMC is refused. -/
def armRefused (s : State) (slot : Nat) : Bool :=
  s.control.opState != .run || s.intake.geometry.isNone || s.store.routing.isNone || slotEmpty s slot ||
    !(s.capture.state == .disarmed || s.capture.state == .armed)

/-- R54: what ARMC does once taken. -/
def armSlot (slot : Nat) (s : State) : State :=
  if s.capture.state == .disarmed then finish (arm slot s)
  else if s.capture.armed == some slot then s
  else rearm slot s

/-- ARMC, R54. -/
def execArmc (ch : Channel) (s : State) : Result :=
  .next (runCode ch codeARMC (fun c t =>
    match c.fields with
    | [slot] =>
      if 7 < slot then answerBare ch c .badarg t
      else if armRefused t slot then answerBare ch c .state t
      else answerBare ch c .done (armSlot slot t)
    | _ => answerBare ch c .badarg t) s)

/-- DSRM, R55. -/
def execDsrm (ch : Channel) (s : State) : Result :=
  .next (runCode ch codeDSRM (fun c t => answerBare ch c .done (disarm t)) s)

/-! ## Fire latch and release lines (R52, R56, R57) -/

/-- R52, R53: an input of the release condition or the FOCUS line has been set; what it does to capture, the report to
the focus engine, and what follows. -/
def inputsChanged (before : Bool) (s : State) : State := finish (reportCapture (releaseChanged before s))

/-- R52: the fire latch set or cleared. -/
def setFireLatch (on : Bool) (s : State) : State :=
  if s.capture.fireLatch == on then s
  else inputsChanged (releaseAsserted s) (updCapture (fun c => { c with fireLatch := on }) s)

/-- FIRE, R52. -/
def execFire (ch : Channel) (s : State) : Result :=
  .next (runCode ch codeFIRE (fun c t =>
    if t.capture.state == .disarmed then answerBare ch c .state t else answerBare ch c .done (setFireLatch true t)) s)

/-- CEAS, R52. -/
def execCeas (ch : Channel) (s : State) : Result :=
  .next (runCode ch codeCEAS (fun c t => answerBare ch c .done (setFireLatch false t)) s)

/-- The level of the RELEASE line. -/
def setReleasePin (level : Bool) (s : State) : State := { s with pins := { s.pins with release := level } }

/-- The level of the FOCUS line. -/
def setFocusPin (level : Bool) (s : State) : State := { s with pins := { s.pins with focus := level } }

/-- RELEASE_LINE_CHANGE, R52, R56, R57. -/
def execReleaseLineChange (level : Bool) (s : State) : Result :=
  .next (if s.pins.release == level then s else inputsChanged (releaseAsserted s) (setReleasePin level s))

/-- R56, R57: the FOCUS line is asserted or negated. -/
def focusMoved (level : Bool) (s : State) : State := if level then assertFocus s else negateFocus s

/-- FOCUS_LINE_CHANGE, R56, R57. -/
def execFocusLineChange (level : Bool) (s : State) : Result :=
  .next
    (if s.pins.focus == level then s else finish (reportCapture (focusMoved level (setFocusPin level s))))

/-! ## BLOG (R68) -/

/-- BLOG, R68. -/
def execBlog (ch : Channel) (s : State) : Result :=
  .next (runCode ch codeBLOG (fun c t =>
    match c.fields with
    | [position] =>
      if 7 < position then answerBare ch c .badarg t
      else answer ch c .done (.capture (captureStatus t) (t.capture.log[position]?.map burstBytes)) t
    | _ => answerBare ch c .badarg t) s)

end Sys2Proof.Machine
end

