-- ==== Sys2Proof/Machine/CardCommands.lean ====
section
/-! DEFINITION. Meanings of the recording engine's commands (07): XTNT, PLRD and CPWR, and what happens at the card
slots. -/

namespace Sys2Proof.Machine

/-! ## XTNT (R129) -/

/-- R129, check 1: the slot has no capacity. -/
def noCapacity (c : Card) : Bool :=
  c.state == .empty || c.state == .mounting || c.state == .fault || c.state == .off

/-- R129: the extents an XTNT names, start and count by turns; none where one is incomplete. -/
def extentsOf : List Nat → Option (List Run)
  | [] => some []
  | start :: count :: rest => (extentsOf rest).map fun more => { start, count } :: more
  | _ => none

/-- No extent of a list overlaps another of it. -/
def runsDisjoint : List Run → Bool
  | [] => true
  | r :: rest => rest.all (fun k => !runsOverlap r k) && runsDisjoint rest

/-- R129, check 2: an extent against the capacity, the list and the used-block record. -/
def extentOk (c : Card) (r : Run) : Bool :=
  1 ≤ r.count && r.start + r.count ≤ orZero c.capacity && c.extents.all (fun k => !runsOverlap r k) &&
    c.used.all (fun k => !runsOverlap r k)

/-- R129, check 2: 1 to 5 extents, each in order. -/
def extentsOk (c : Card) (runs : List Run) : Bool :=
  1 ≤ runs.length && runs.length ≤ 5 && runs.all (extentOk c) && runsDisjoint runs

/-- R129: the extents join the back of the list; a MOUNTED or FULL slot becomes READY, and the STALLED test follows
(R137). -/
def addExtents (k : CardSlot) (runs : List Run) (s : State) : State :=
  let s1 := updCard k (fun c => { c with extents := c.extents ++ runs }) s
  if (card s1 k).state == .mounted || (card s1 k).state == .full then enterRest k s1 else s1

/-- R141: an answer with the slot status. -/
def answerSlot (ch : Channel) (c : Cell) (k : CardSlot) (st : Status) (s : State) : State :=
  answer ch c st (.cardSlot (slotStatus s k)) s

/-- R129: an XTNT on a slot. -/
def takeExtents (ch : Channel) (c : Cell) (k : CardSlot) (numbers : List Nat) (s : State) : State :=
  if noCapacity (card s k) then answerBare ch c .state s
  else
    match extentsOf numbers with
    | none => answerBare ch c .badarg s
    | some runs =>
      if !extentsOk (card s k) runs then answerBare ch c .badarg s
      else if maxExtents < (card s k).extents.length + runs.length then answerBare ch c .full s
      else answerSlot ch c k .done (settle (addExtents k runs s))

/-- XTNT, R129. -/
def execXtnt (ch : Channel) (s : State) : Result :=
  .next (runCode ch codeXTNT (fun c t =>
    match c.fields with
    | v :: numbers =>
      match slotOfCode v with
      | some k => takeExtents ch c k numbers t
      | none => answerBare ch c .badarg t
    | [] => answerBare ch c .badarg t) s)

/-! ## PLRD (R138) -/

/-- R138: records leave the front of the log and are returned. -/
def readLog (ch : Channel) (c : Cell) (k : CardSlot) (count : Nat) (s : State) : State :=
  let records := (card s k).log.take count
  let s1 := stalledTest k (updCard k (fun x => { x with log := x.log.drop count }) s)
  settle (answer ch c .done (.bytes (records.map placementBytes).flatten) s1)

/-- PLRD, R138. -/
def execPlrd (ch : Channel) (s : State) : Result :=
  .next (runCode ch codePLRD (fun c t =>
    match c.fields with
    | [v, count] =>
      match slotOfCode v with
      | some k => if 1 ≤ count && count ≤ maxLogRecords then readLog ch c k count t else answerBare ch c .badarg t
      | none => answerBare ch c .badarg t
    | _ => answerBare ch c .badarg t) s)

/-! ## CPWR (R125) -/

/-- R125: slot power switched. -/
def switchPower (k : CardSlot) (on : Bool) (s : State) : State :=
  match on, (card s k).state with
  | true, .off => powerOnCard k s
  | true, _ => s
  | false, .off => s
  | false, _ => settle (powerOff k s)

/-- R125: the setting a CPWR names for a slot. Each answer carries the status of the slot named (R141), BADARG among them
(notes/assumptions/48.md). -/
def takePower (ch : Channel) (c : Cell) (k : CardSlot) (setting : List Nat) (s : State) : State :=
  match setting with
  | [p] =>
    match switchOfCode p with
    | some on => answerSlot ch c k .done (switchPower k on s)
    | none => answerSlot ch c k .badarg s
  | _ => answerSlot ch c k .badarg s

/-- CPWR, R125. -/
def execCpwr (ch : Channel) (s : State) : Result :=
  .next (runCode ch codeCPWR (fun c t =>
    match c.fields with
    | v :: setting =>
      match slotOfCode v with
      | some k => takePower ch c k setting t
      | none => answerBare ch c .badarg t
    | [] => answerBare ch c .badarg t) s)

/-! ## Detect, mount, protect, power (R124 to R127) -/

/-- The level of the slot's card-detect line. -/
def setDetect (k : CardSlot) (level : Bool) (s : State) : State :=
  match k with
  | .a => { s with pins := { s.pins with detectA := level } }
  | .b => { s with pins := { s.pins with detectB := level } }

/-- The level of the slot's write-protect line. -/
def setProtect (k : CardSlot) (level : Bool) (s : State) : State :=
  match k with
  | .a => { s with pins := { s.pins with protectA := level } }
  | .b => { s with pins := { s.pins with protectB := level } }

/-- R124: a powered EMPTY slot starts a mount. -/
def insertCard (k : CardSlot) (s : State) : State :=
  if (card s k).power && (card s k).state == .empty then startMount k s else s

/-- CARD_DETECT_ASSERTED, R124: a change of the line. -/
def execCardDetectAsserted (slot : CardSlot) (s : State) : Result :=
  .next (if cardDetect s slot then s else insertCard slot (setDetect slot true s))

/-- R124: the answer to the capacity query; a report of failure or of capacity 0 is a mount failure. -/
def mountAnswer (k : CardSlot) (capacity : Option Word32) (s : State) : State :=
  match capacity with
  | some n => if n.toNat == 0 then enterFault k none s else mounted k n.toNat s
  | none => enterFault k none s

/-- MOUNT_ANSWER, R124; an answer that comes in another state than MOUNTING is discarded. One that comes in MOUNTING is the
answer of that mount, also where the card sent it for an earlier one (notes/assumptions/60.md). -/
def execMountAnswer (slot : CardSlot) (capacity : Option Word32) (s : State) : Result :=
  .next (if (card s slot).state == .mounting then settle (mountAnswer slot capacity s) else s)

/-- MOUNT_TIMEOUT, R124. -/
def execMountTimeout (slot : CardSlot) (s : State) : Result :=
  .next (onExpiry (card s slot).mountTimer (fun t => settle (enterFault slot none t)) s)

/-- R125, R127: a card leaves: in OFF only CARD_REMOVED latches. -/
def takeOutCard (k : CardSlot) (s : State) : State :=
  if (card s k).state == .off then raise (.cardRemoved k) s else settle (removeCard k s)

/-- CARD_DETECT_NEGATED, R127: a change of the line. -/
def execCardDetectNegated (slot : CardSlot) (s : State) : Result :=
  .next (if cardDetect s slot then takeOutCard slot (setDetect slot false s) else s)

/-- R126, R136: an active write is stopped and its duty returns to OWED. -/
def protectWrite (k : CardSlot) (s : State) : State :=
  match (card s k).write with
  | some w => setDuty w.slot (destOfSlot k) w.rend .owed none (stopWrite k w s)
  | none => s

/-- R126: write-protect asserted. -/
def protectCard (k : CardSlot) (s : State) : State :=
  match (card s k).state with
  | .mounted => redirectFrom k (setCardState k .writeProtected s)
  | .ready => redirectFrom k (setCardState k .writeProtected s)
  | .full => redirectFrom k (setCardState k .writeProtected s)
  | .stalled => redirectFrom k (setCardState k .writeProtected s)
  | .writing => redirectFrom k (setCardState k .writeProtected (protectWrite k s))
  | _ => s

/-- R126: write-protect negated. -/
def unprotectCard (k : CardSlot) (s : State) : State :=
  if (card s k).state == .writeProtected then enterRest k s else s

/-- WRITE_PROTECT_CHANGE, R126: a change of the line. -/
def execWriteProtectChange (slot : CardSlot) (level : Bool) (s : State) : Result :=
  .next
    (if cardProtect s slot == level then s
     else
       let t := setProtect slot level s
       settle (if level then protectCard slot t else unprotectCard slot t))

/-- OVER_CURRENT, R125: taken in any state other than EMPTY and OFF. -/
def execOverCurrent (slot : CardSlot) (s : State) : Result :=
  .next
    (if (card s slot).state == .empty || (card s slot).state == .off then s else settle (faultStopping slot s))

/-! ## Blocks (R132 to R134) -/

/-- R132, R133: a block completes: the next is sent with a fresh timer, or the write completes. -/
def blockDone (k : CardSlot) (w : ActiveWrite) (s : State) : State :=
  if w.done + 1 < blockCount w.plan then
    updCard k (fun c => { c with write := some { w with done := w.done + 1, timer := some writeTimerUs } }) s
  else settle (completeWrite k w s)

/-- The write that a block's report is about: the active write, where the block is the one it sent last. A report for a
block of a write that has been stopped is discarded, also where the next write has started (R136; that the report names
its block is the model's, notes/assumptions/36.md). -/
def reportedWrite (s : State) (report : BlockReport) : Option ActiveWrite :=
  (card s report.slot).write.filter fun w => planBlock w.done w.plan == some report.block.toNat

/-- BLOCK_COMPLETE, R132; the report of a block that is not awaited is discarded. -/
def execBlockComplete (report : BlockReport) (s : State) : Result :=
  .next
    (match reportedWrite s report with
     | some w => blockDone report.slot w s
     | none => s)

/-- BLOCK_FAILED, R134; the report of a block that is not awaited is discarded. -/
def execBlockFailed (report : BlockReport) (s : State) : Result :=
  .next
    (match reportedWrite s report with
     | some w => settle (failBlock report.slot w s)
     | none => s)

/-- The write timer of the active write. -/
def writeTimer (s : State) (k : CardSlot) : Timer := (card s k).write.bind fun w => w.timer

/-- R132: the write-timeout counter rises and the slot enters FAULT. -/
def writeTimedOut (k : CardSlot) (s : State) : State :=
  settle (faultStopping k (updCardCounters k (fun c => { c with timeouts := satInc c.timeouts }) s))

/-- WRITE_TIMER_EXPIRY, R132. -/
def execWriteTimerExpiry (slot : CardSlot) (s : State) : Result :=
  .next (onExpiry (writeTimer s slot) (writeTimedOut slot) s)

end Sys2Proof.Machine
end

