-- ==== Sys2Proof/Machine/DevelopCommands.lean ====
section
/-! DEFINITION. Meanings of the development engine's commands (06): DEV_PAGE_REQUEST and DEVELOPMENT_COMPLETE. -/

namespace Sys2Proof.Machine

/-! ## Pages (R117, R118) -/

/-- Whether an encoded image of a length fits a page list with its development block. -/
def fitsPages (length : Nat) : Bool := outputPages length ≤ maxPages

/-- The largest encoded length that fits a page list. -/
def largestLength : Nat := maxPages * pageBytes - devBlockBytes

/-- R117: the quality used and the length it gives, when `sizes` are the encoded lengths at the quality asked for and
at each lower one in turn (notes/assumptions/10.md). At quality 1 every output fits. -/
def settleQuality (asked : Nat) : List Nat → Nat × Nat
  | [] => (asked, 0)
  | length :: rest =>
    if fitsPages length then (asked, length)
    else if asked ≤ 1 then (1, largestLength)
    else
      match rest with
      | [] => (1, largestLength)
      | _ => settleQuality (asked - 1) rest

/-- R117: the size settled for an output; a PRV always fits at the recipe's quality. -/
def settleSize (r : Rendition) (asked : Nat) (sizes : List Nat) : OutputSize :=
  match r with
  | .prv => { rend := r, quality := asked, length := min (sizes.headD 0) largestLength }
  | _ => { rend := r, quality := (settleQuality asked sizes).1, length := (settleQuality asked sizes).2 }

/-- R117: the size is settled before the output's first page, and a reduced quality is counted. -/
def sizeOutput (w : Work) (r : Rendition) (sizes : List Nat) (s : State) : State :=
  match settledSize s r with
  | some _ => s
  | none =>
    let z := settleSize r w.recipe.quality sizes
    let c := s.dev.counters
    { s with
      dev := { s.dev with
        work := some { w with sizes := w.sizes ++ [z] }
        counters := { c with reduced := if z.quality < w.recipe.quality then satInc c.reduced else c.reduced } } }

/-- R118: the request is granted under the capture floor, or the engine waits for space. -/
def requestPage (slot : Nat) (r : Rendition) (s : State) : State :=
  match settledSize s r with
  | none => s
  | some z =>
    if floorAllows s then grantDevPage slot z s
    else
      let c := s.dev.counters
      { s with dev := { s.dev with state := .waitSpace, counters := { c with spaceWaits := satInc c.spaceWaits } } }

/-- R117, R118: the output being produced asks for its next page. -/
def devPage (sizes : List Nat) (s : State) : State :=
  match s.dev.state, s.dev.work, producing s with
  | .developing, some w, some (x, r) => requestPage x.slot r (sizeOutput w r sizes s)
  | _, _, _ => s

/-- DEV_PAGE_REQUEST, R118. -/
def execDevPageRequest (sizes : List Nat) (s : State) : Result := .next (devPage sizes s)

/-! ## Completion (R115, R116, R121) -/

/-- R116: one axis of the crop window: its extent in a frame of `n`. -/
def windowExtent (n : Nat) : Nat := 2 * (n / 3)

/-- R116: one axis of a window centred on the frame. -/
def centredEdge (n : Nat) : Nat := (n - windowExtent n) / 2

/-- R116: one axis of a window centred on a point, moved inward where it leaves the frame. -/
def subjectEdge (n point : Nat) : Nat := min (point - windowExtent n / 2) (n - windowExtent n)

/-- R116: the centroid a SUBJECT recipe crops about. -/
def cropPoint (w : Work) (x : Shot) : Option (Nat × Nat) :=
  if w.recipe.subject then x.focus.bind fun f => f.centroid else none

/-- R116: the length of the PRV's shorter edge. -/
def shortEdge (long shorter longer : Nat) : Nat := max 2 (shorter * long / longer / 2 * 2)

/-- R115, R116: the development block of an output of a frame of `samples` by `lines`. -/
def devBlockOf (w : Work) (x : Shot) (samples lines : Nat) (z : OutputSize) : DevBlock :=
  let base : DevBlock :=
    { slot := x.recipeSlot, substituted := w.substituted, shadingApplied := w.shading.isSome,
      shadingMissing := w.shadingMissing, half := w.recipe.half, subject := false, generation := w.generation,
      qualityAsked := w.recipe.quality, qualityUsed := z.quality,
      width := if w.recipe.half then samples / 2 else samples,
      height := if w.recipe.half then lines / 2 else lines,
      cropLeft := 0, cropTop := 0, cropWidth := 0, cropHeight := 0 }
  match z.rend with
  | .prv =>
    let cw := windowExtent samples
    let chh := windowExtent lines
    let long := w.recipe.longEdge
    { base with
      subject := (cropPoint w x).isSome
      width := if chh ≤ cw then long else shortEdge long cw chh
      height := if chh ≤ cw then shortEdge long chh cw else long
      cropLeft := match cropPoint w x with | some p => subjectEdge samples p.1 | none => centredEdge samples
      cropTop := match cropPoint w x with | some p => subjectEdge lines p.2 | none => centredEdge lines
      cropWidth := cw
      cropHeight := chh }
  | _ => base

/-- R115: the frame's shape from the readout block. -/
def frameShape (x : Shot) : Nat × Nat :=
  match x.readout with
  | some b => (b.samples, b.lines)
  | none => (0, 0)

/-- The byte stream a RAW rendition holds behind its readout block. -/
def rawStream (c : Content) : List Byte :=
  match c with
  | .raw bytes => bytes
  | _ => []

/-- R114, R115: what the shot's outputs are developed from. -/
def sourceOf (w : Work) (x : Shot) : DevSource :=
  { readout := x.readout, raw := rawStream x.raw.content, grid := w.shading, recipe := w.recipe }

/-- R121, step 1: an output becomes READY with its contents, numbered by the count of encoded outputs. -/
def completeOutput (w : Work) (s : State) (r : Rendition) : State :=
  match shotAt s w.slot, settledSize s r with
  | some x, some z =>
    let content := .encoded (devBlockOf w x (frameShape x).1 (frameShape x).2 z) (sourceOf w x) s.dev.serial
    updShot w.slot (setRend r fun k => { k with state := .ready, length := z.length, content })
      { s with dev := { s.dev with serial := s.dev.serial + 1 } }
  | _, _ => s

/-- R121, step 2: the need test on an output. -/
def outputTest (slot : Nat) (s : State) (r : Rendition) : State := readyTest slot r s

/-- R121, steps 1 to 6. -/
def completeDevelopment (w : Work) (s : State) : State :=
  let ready := w.outputs.foldl (completeOutput w) s
  let tested := w.outputs.foldl (outputTest w.slot) ready
  let rawTested := readyTest w.slot .raw (updShot w.slot dropRawReader tested)
  let done := raise .developDone rawTested
  let counters := { done.dev.counters with completed := satInc done.dev.counters.completed }
  let idle := previousTest { done with dev := { done.dev with state := .idle, work := none, counters } }
  startIfIdle (requeueAfter w (reassess w.slot idle))

/-- R121: the last page of the last fixed output has been written. -/
def developmentDone (s : State) : Bool := s.dev.state == .developing && (producing s).isNone

/-- DEVELOPMENT_COMPLETE, R121. -/
def execDevelopmentComplete (s : State) : Result :=
  .next
    (match s.dev.work with
     | some w => if developmentDone s then settle (completeDevelopment w s) else s
     | none => s)

end Sys2Proof.Machine
end

