-- ==== Sys2Proof/Machine/FocusCommands.lean ====
section
/-! DEFINITION. Meanings of the focus engine's commands (05): FTGT and MEASUREMENT_COMPLETE. -/

namespace Sys2Proof.Machine

/-- R106: the answer of FTGT. -/
def answerFocus (ch : Channel) (c : Cell) (s : State) : State := answer ch c .done (.focus (focusStatus s)) s

/-- FTGT, R96. -/
def execFtgt (ch : Channel) (s : State) : Result :=
  .next (runCode ch codeFTGT (fun c t =>
    if targetOk t.focus c.fields then finish (answerFocus ch c (updFocus (setTarget c.fields) t))
    else answerBare ch c .badarg t) s)

/-- R93: the measurement of a closed frame completes. Any number of closed frames may await theirs, and the command names
the frame by its counter: the oldest awaited one of that counter completes, and a counter that none has changes nothing
(notes/assumptions/16.md, 3.md). -/
def measure (counter : Nat) (s : State) : State :=
  match takeAwaited counter s.focus.awaited with
  | none => s
  | some (m, rest) => finish (completeMeasurement m (updFocus (fun f => { f with awaited := rest }) s))

/-- MEASUREMENT_COMPLETE, R93. -/
def execMeasurementComplete (frame : Word16) (s : State) : Result := .next (measure frame.toNat s)

end Sys2Proof.Machine
end

