-- ==== Sys2Proof/WellFormed.lean ====
section
/-! DEFINITION. The shape a command has when a link delivers it: what a unit, a packet or a tether frame of its kind
can carry. A unit of another shape arrives as MALFORMED_HOST_UNIT, MALFORMED_TETHER_FRAME or
UNEXPECTED_TETHER_FRAME. -/

namespace Sys2Proof

/-- A cell has 48 argument bytes (10 section 10.2), of which those beyond its argument length are zero when it is
sent. -/
def Cell.wellFormed (c : Cell) : Bool := c.args.length == 48

/-- A bulk unit carries 1 to 65,536 payload bytes (09 section 9.1). -/
def bulkLength (payload : List Byte) : Bool := 1 ≤ payload.length && payload.length ≤ 65536

/-- The fixed length of each kind of tether frame, its kind byte included (10 section 10.3); none for another kind. -/
def tetherFixedLength (kind : Nat) : Option Nat :=
  match kind with
  | 1 => some 3
  | 2 => some 4
  | 3 => some 14
  | 4 => some 12
  | 5 => some 10
  | 6 => some 6
  | 7 => some 57
  | 8 => some 15
  | 9 => some 1
  | _ => none

/-- R183: the fixed part behind a kind byte holds a code that is not listed for its field: the result (0 or 1) or the mode
(0 to 3) of an ANSWER, the rendition (0 to 2) of an ANNOUNCE, a BLOCK, an ACK or an ABORT (10 sections 10.3 and 10.7). -/
def unlistedCode (kind : Nat) (fixed : List Byte) : Bool :=
  match kind with
  | 2 => 1 < (fixed.getD 0 0).toNat || 3 < (fixed.getD 1 0).toNat
  | 3 => 2 < (fixed.getD 4 0).toNat
  | 4 => 2 < (fixed.getD 4 0).toNat
  | 5 => 2 < (fixed.getD 4 0).toNat
  | 6 => 2 < (fixed.getD 4 0).toNat
  | _ => false

/-- R143: a body whose kind is none of the nine, or that is shorter than the fixed part of its kind; R183: or that
holds an unlisted code in its fixed part. -/
def tetherMalformed (body : List Byte) : Bool :=
  match body with
  | [] => true
  | k :: rest =>
    match tetherFixedLength k.toNat with
    | none => true
    | some n => body.length < n || unlistedCode k.toNat rest

/-- R143: a frame of a kind the part sends (ANSWER, ANNOUNCE, BLOCK, MIRROR), long enough for its kind. -/
def tetherUnexpected (body : List Byte) : Bool :=
  match body with
  | [] => false
  | k :: _ => [2, 3, 4, 8].contains k.toNat && !tetherMalformed body

/-- What a link can deliver as this command. -/
def Instr.wellFormed : Instr → Bool
  | .commandCell _ c => c.wellFormed
  | .control _ c => c.wellFormed
  | .loadUnit p => bulkLength p
  | .injectUnit p => bulkLength p
  | .line _ _ _ _ samples => samples.length ≤ 12288
  | .embedded _ d => 1 ≤ d.length
  | .dutyExpiry n _ => 1 ≤ n && n ≤ 4294967295
  | .malformedTetherFrame _ b => tetherMalformed b
  | .unexpectedTetherFrame _ b => tetherUnexpected b
  | _ => true

/-- The command has the shape its kind has. -/
abbrev WellFormed (i : Instr) : Prop := i.wellFormed = true

end Sys2Proof
end

