-- ==== Sys2Proof/Machine/IntakeCommands.lean ====
section
/-! DEFINITION. Meanings of the sensor intake's commands (02): packets, filler, timers, the pattern tick, injected
readout, SRCS and the live view. -/

namespace Sys2Proof.Machine

/-! ## Sensor packets (R31 to R37) -/

/-- FRAME_START, R34, R37, on lane 0. -/
def execFrameStart (checkOk : Bool) (counter : Word16) (s : State) : Result :=
  .next (settle (sensorPacket 0 checkOk (takeFrameStart counter.toNat) s))

/-- LINE, R31, R35: one part of a line on its lane. -/
def execLine (lane : Fin 4) (checkOk : Bool) (number : Word16) (kind : LineKind) (samples : List Word16) (s : State) :
    Result :=
  .next (sensorPacket lane.val checkOk
    (takePart { lane := lane.val, number := number.toNat, kind, samples := samples.map fun v => v.toNat }) s)

/-- EMBEDDED, R37, on lane 0. -/
def execEmbedded (checkOk : Bool) (data : List Byte) (s : State) : Result :=
  .next (sensorPacket 0 checkOk (takeEmbedded data) s)

/-- FRAME_END, R37, on lane 0. -/
def execFrameEnd (checkOk : Bool) (s : State) : Result := .next (settle (sensorPacket 0 checkOk takeFrameEnd s))

/-- FILLER_SEQUENCE, R32: a valid filler or sync sequence on a lane. -/
def execFillerSequence (lane : Fin 4) (s : State) : Result :=
  .next (if s.intake.source != .sensor || lanesInUse s ≤ lane.val then s else monitorSees lane.val true s)

/-- LOSS_TIMER_EXPIRY, R32. -/
def execLossTimerExpiry (lane : Fin 4) (s : State) : Result :=
  .next
    (if monitorsRun s && lane.val < lanesInUse s && (laneAt s lane.val).locked then
       onExpiry (laneAt s lane.val).timer (loseLane lane.val) s
     else s)

/-- The frame stale timer, stopped in WAIT_START. -/
def staleTimer (s : State) : Timer := s.intake.frame.bind fun f => f.staleTimer

/-- STALE_TIMER_EXPIRY, R38. -/
def execStaleTimerExpiry (s : State) : Result :=
  .next (onExpiry (staleTimer s) (fun t => settle (closeFrame .stale t)) s)

/-- PATTERN_TICK, R47. -/
def execPatternTick (s : State) : Result :=
  .next (onExpiry s.intake.patternTimer (fun t => settle (patternStep t)) s)

/-! ## INJECT units (R48) -/

/-- INJECT_UNIT, R48; a payload of another length than 1 to 65,536 is R167's malformed unit. -/
def execInjectUnit (payload : List Byte) (s : State) : Result :=
  .next
    (if !s.pins.hostUp then s
     else if bulkLength payload then settle (takeInject payload s)
     else updCounters .host (fun k => { k with malformed := satInc k.malformed }) s)

/-! ## SRCS (R46) -/

/-- R46: the largest flat value. -/
def flatLimit (s : State) : Nat :=
  match s.intake.geometry with
  | some g => 2 ^ g.depth - 1
  | none => 0

/-- R46: what an SRCS names; none where an argument is missing or out of range. Another source than PATTERN leaves the
pattern settings as they are. -/
def sourceChoice (fields : List Nat) (s : State) : Option SourceChoice :=
  match fields with
  | [v] =>
    match sourceOfCode v with
    | some .sensor => some { sourceNow s.intake with source := .sensor }
    | some .inject => some { sourceNow s.intake with source := .inject }
    | _ => none
  | [v, k, flat, interval] =>
    match sourceOfCode v, patternOfCode k with
    | some .pattern, some kind =>
      if flat ≤ flatLimit s && 5 ≤ interval && interval ≤ 1000 then some { source := .pattern, kind, flat, interval }
      else none
    | _, _ => none
  | _ => none

/-- R46: the source and settings already in effect change nothing. -/
def selectSource (k : SourceChoice) (s : State) : State :=
  if sourceNow s.intake == k then s else settle (changeSource k s)

/-- R46, R49: the answer of SRCS. -/
def answerIntake (ch : Channel) (c : Cell) (s : State) : State := answer ch c .done (.intake (intakeStatus s)) s

/-- SRCS, R46. -/
def execSrcs (ch : Channel) (s : State) : Result :=
  .next (runCode ch codeSRCS (fun c t =>
    match sourceChoice c.fields t with
    | none => answerBare ch c .badarg t
    | some k => answerIntake ch c (selectSource k t)) s)

/-! ## Live view (R45) -/

/-- R45: the payload of the next unit of a live frame. -/
def livePayload (f : LiveFrame) : List Byte :=
  (List.range (min liveUnitBytes (f.total - f.sent))).map fun i => liveByte f.image (f.sent + i)

/-- R45: the buffer after a unit: FREE after the last one, and a WAITING frame then becomes SENDING. -/
def afterUnit (n : Nat) (f : LiveFrame) (s : State) : State :=
  if f.sent + liveUnitBytes < f.total then
    setBuffer n { state := .sending, frame := some { f with sent := f.sent + liveUnitBytes } } s
  else sendWaiting (setBuffer n LiveBuffer.reset s)

/-- R45, R166: the host link takes the next LIVE unit; control cells that were ready have gone first
(notes/assumptions/19.md). -/
def sendUnit (n : Nat) (f : LiveFrame) (s : State) : State :=
  afterUnit n f
    { s with control := { s.control with ready := [], lastTaken := some (liveUnit f f.sent (livePayload f)) } }

/-- R45, R166, R177: the cells that were ready leave, and the unit after them; where the answer to a PRST is among the
cells, it has left before the unit, and the part reset begins with it. -/
def takeUnit (n : Nat) (f : LiveFrame) (s : State) : State :=
  if s.control.resetAwaited then partReset s.pins s else sendUnit n f s

/-- LIVE_UNIT_TAKEN, R45. -/
def execLiveUnitTaken (s : State) : Result :=
  .next
    (if !s.pins.hostUp then s
     else
       match bufferIn s .sending with
       | none => s
       | some n =>
         match (buffer s n).frame with
         | some f => takeUnit n f s
         | none => s)

end Sys2Proof.Machine
end

