-- ==== Sys2Proof/Machine/LensCommands.lean ====
section
/-! DEFINITION. Meanings of the lens controller's commands (04): the lens present line, the probe, the lens messages,
the timers and LPRB. Each change of the lens state is followed by the release gate's test (R81). -/

namespace Sys2Proof.Machine

/-! ## Attachment and detach (R70) -/

/-- The level of the lens present line. -/
def setLensPin (level : Bool) (s : State) : State := { s with pins := { s.pins with lensPresent := level } }

/-- R70: LENS_ATTACHED, fault count 0, and a probe. -/
def attachLens (s : State) : State :=
  startProbe (updLens (fun l => { l with faultCount := 0 }) (raise .lensAttached (setLensPin true s)))

/-- LENS_PRESENT_ASSERTED, R70: a change of the line. -/
def execLensPresentAsserted (s : State) : Result := .next (if s.pins.lensPresent then s else finish (attachLens s))

/-- R70, steps 1 to 5. The mount select lines stay as they are (notes/assumptions/42.md). -/
def detached (l : Lens) : Lens :=
  { quiet l with
    inFlight := none, queued := none, contract := none, report := none, sensed := none, profileId := none,
    profile := none, position := none, aperture := 0, faultCount := 0 }

/-- R70: the lens is detached. -/
def detachLens (s : State) : State :=
  raise .lensDetached (setLensState .absent (updLens detached (setLensPin false s)))

/-- LENS_PRESENT_NEGATED, R70: a change of the line. -/
def execLensPresentNegated (s : State) : Result := .next (if s.pins.lensPresent then finish (detachLens s) else s)

/-! ## Probe (R71) -/

/-- PROBE_PHASE, R71: the settle time has passed and a nibble is read. -/
def execProbePhase (nibble : BitVec 4) (s : State) : Result :=
  .next
    (if s.lens.state == .probing then
       onExpiry s.lens.settleTimer (fun t => finish (readNibble nibble.toNat t)) s
     else s)

/-! ## Messages of the lens (R76 to R80) -/

/-- R76: the request that a message can answer: the one outstanding, and none for a late message, which answers a
request or a sending of it before the last. -/
def answerable (late : Bool) (s : State) : Option LensRequest := if late then none else s.lens.outstanding

/-- R76: the message answers the named request. -/
def awaiting (late : Bool) (s : State) (r : LensRequest) : Bool := answerable late s == some r

/-- R76: a report whose first position is above its last, or that names no speed class, is malformed. -/
def reportOk (first last : Word16) (classes : BitVec 4) : Bool := first.toNat ≤ last.toNat && classes != 0

/-- R78: the report is taken. -/
def takeReport (r : CapabilityReport) (s : State) : State :=
  afterReport (updLens (fun l => { l with report := some r }) (answered s))

/-- CAPABILITY_REPORT, R76, R78. -/
def execCapabilityReport (late : Bool) (first last : Word16) (classes : BitVec 4) (apertureMin apertureMax : Byte)
    (s : State) : Result :=
  .next
    (if awaiting late s .capabilityQuery && reportOk first last classes then
       finish (takeReport
         { first := first.toNat, last := last.toNat, classes, apertureMin := apertureMin.toNat,
           apertureMax := apertureMax.toNat } s)
     else unexpectedMessage s)

/-- R79: the offer that a message can answer. -/
def outstandingOffer (late : Bool) (s : State) : Option Contract :=
  match answerable late s with
  | some (.offer cls first last) => some { cls, first, last }
  | _ => none

/-- R79, R80: the contract is set and the setup list starts. -/
def takeAccept (c : Contract) (s : State) : State :=
  nextSetup (updLens (fun l => { l with contract := some c, setupDone := 0 }) (answered s))

/-- ACCEPT, R79. -/
def execAccept (late : Bool) (s : State) : Result :=
  .next
    (match outstandingOffer late s with
     | some c => finish (takeAccept c s)
     | none => unexpectedMessage s)

/-- R79: the next lower common class is offered, or the lens cannot be driven. -/
def takeReject (c : Contract) (s : State) : State :=
  match highestBelow (commonClasses s.lens) c.cls with
  | some cls => offerClass cls (answered s)
  | none => enterNodrive (answered s)

/-- REJECT, R79. -/
def execReject (late : Bool) (s : State) : Result :=
  .next
    (match outstandingOffer late s with
     | some c => finish (takeReject c s)
     | none => unexpectedMessage s)

/-- R79: the wait count rises; the fifth WAIT is a fault. -/
def takeWait (s : State) : State :=
  let s1 := updLens (fun l => { l with waits := l.waits + 1 }) (answered s)
  if s1.lens.waits == 5 then lensFault s1 else updLens (fun l => { l with waitTimer := some lensWaitUs }) s1

/-- WAIT, R79. -/
def execWait (late : Bool) (s : State) : Result :=
  .next
    (match outstandingOffer late s with
     | some _ => finish (takeWait s)
     | none => unexpectedMessage s)

/-- WAIT_TIMER_EXPIRY, R79: the same OFFER is sent again. -/
def execWaitTimerExpiry (s : State) : Result :=
  .next (onExpiry s.lens.waitTimer
    (fun t => offerClass t.lens.offered (updLens (fun l => { l with waitTimer := none }) t)) s)

/-- R80: the setup entry being applied. -/
def currentSetup (s : State) : Option SetupEntry := (setupList s.lens)[s.lens.setupDone]?

/-- PARAM_VALUE, R80. -/
def execParamValue (late : Bool) (value : Word16) (s : State) : Result :=
  .next
    (match answerable late s, currentSetup s with
     | some (.paramRead index), some e => sendRequest (.paramWrite index (combine e value.toNat)) (answered s)
     | _, _ => unexpectedMessage s)

/-- R80: the entry is done and the next one follows. -/
def takeParamDone (s : State) : State := nextSetup (updLens (fun l => { l with setupDone := l.setupDone + 1 }) (answered s))

/-- PARAM_DONE, R80. -/
def execParamDone (late : Bool) (s : State) : Result :=
  .next
    (match answerable late s with
     | some (.paramWrite _ _) => finish (takeParamDone s)
     | _ => unexpectedMessage s)

/-- PARAM_REFUSED, R80. -/
def execParamRefused (late : Bool) (s : State) : Result :=
  .next
    (match answerable late s with
     | some (.paramRead _) => finish (lensFault s)
     | some (.paramWrite _ _) => finish (lensFault s)
     | _ => unexpectedMessage s)

/-! ## Drives and STATUS (R77, R84) -/

/-- R77: the position a message carries. -/
def setPosition (position : Nat) (s : State) : State := updLens (fun l => { l with position := some position }) s

/-- ARRIVED, R84: the drive ends; with an ABORT outstanding only the position is taken. -/
def execArrived (position : Word16) (s : State) : Result :=
  .next
    (if s.lens.state == .driving && s.lens.inFlight.isSome then
       if awaiting false s .abort then setPosition position.toNat s else finish (endDrive position.toNat s)
     else unexpectedMessage s)

/-- ABORT_ACK, R84. -/
def execAbortAck (late : Bool) (position : Word16) (s : State) : Result :=
  .next
    (if s.lens.state == .driving && awaiting late s .abort then finish (endDrive position.toNat (answered s))
     else unexpectedMessage s)

/-- STATUS, R77: taken in any state other than ABSENT and PROBING. -/
def execStatus (position : Word16) (aperture : Byte) (s : State) : Result :=
  .next
    (if s.lens.state == .absent || s.lens.state == .probing then s
     else updLens (fun l => { l with position := some position.toNat, aperture := aperture.toNat }) s)

/-! ## Timers (R76, R85, R87, R88) -/

/-- R76, R85: the request is sent once more and the answer-timeout counter rises. -/
def resend (r : LensRequest) (s : State) : State :=
  let s1 := if r == .abort then sendAbort s else s
  updLensCounters (fun c => { c with timeouts := satInc c.timeouts })
    (updLens (fun l => { l with misses := 1, answerTimer := some lensAnswerUs, lastSent := some r }) s1)

/-- R76: a miss: the first resends the request, the second is a fault. -/
def answerMissed (s : State) : State :=
  match s.lens.outstanding with
  | none => updLens (fun l => { l with answerTimer := none }) s
  | some r => if s.lens.misses == 0 then resend r s else lensFault s

/-- ANSWER_TIMEOUT, R76, R85. -/
def execAnswerTimeout (s : State) : Result :=
  .next (onExpiry s.lens.answerTimer (fun t => finish (answerMissed t)) s)

/-- DRIVE_TIMER_EXPIRY, R87. -/
def execDriveTimerExpiry (s : State) : Result :=
  .next (onExpiry s.lens.driveTimer (fun t => finish (lensFault (sendAbort t))) s)

/-- R88: the fault count rises by one and a probe starts. -/
def reprobe (s : State) : State := startProbe (updLens (fun l => { l with faultCount := l.faultCount + 1 }) s)

/-- REPROBE_TIMER_EXPIRY, R88. -/
def execReprobeTimerExpiry (s : State) : Result :=
  .next (onExpiry s.lens.reprobeTimer (fun t => finish (reprobe t)) s)

/-! ## LPRB (R89) -/

/-- R89, steps 1 to 6. -/
def freshProbe (s : State) : State :=
  let s1 := if s.lens.inFlight.isSome then sendAbort s else s
  startProbe (updLens (fun l => { l with faultCount := 0 }) (emptySlots s1))

/-- R89: the answer carries the lens status. -/
def answerLens (ch : Channel) (c : Cell) (s : State) : State := answer ch c .done (.lens (lensStatus s)) s

/-- LPRB, R89. -/
def execLprb (ch : Channel) (s : State) : Result :=
  .next (runCode ch codeLPRB (fun c t =>
    if t.pins.lensPresent then finish (answerLens ch c (freshProbe t)) else answerBare ch c .state t) s)

end Sys2Proof.Machine
end

