-- ==== Sys2Proof/Machine/Settings.lean ====
section
/-! DEFINITION. Meanings of the seventeen CONF rows (R173): each setting is read, or set by its owner's rule. -/

namespace Sys2Proof.Machine

/-- R173: a CONF cell that names setting `n`: the value in force (`read`), or a value given, which `set` takes or, by
none, refuses as outside its range. -/
def conf (n : Nat) (read : State → List Nat) (set : List Nat → State → Option State) (ch : Channel) (c : Cell)
    (s : State) : State :=
  match c.fields with
  | [] => answerBare ch c .badarg s
  | k :: values =>
    if k != n then answerBare ch c .badarg s
    else
      match values with
      | [] => answer ch c .done (.setting n (read s)) s
      | _ =>
        match set values s with
        | some t => answer ch c .done (.setting n (read t)) t
        | none => answerBare ch c .badarg s

/-- The execution of a CONF cell for setting `n`. -/
def runConf (n : Nat) (read : State → List Nat) (set : List Nat → State → Option State) (ch : Channel) (s : State) :
    Result :=
  .next (runCell ch (fun c => c.code == codeCONF && confNames n c) (conf n read set ch) s)

/-- One number within a range. -/
def within (low high : Nat) (f : Nat → State → State) (values : List Nat) (s : State) : Option State :=
  match values with
  | [v] => if low ≤ v && v ≤ high then some (f v s) else none
  | _ => none

/-- The store changed by `f`. -/
def updStore (f : Store → Store) (s : State) : State := { s with store := f s.store }

/-- The tether settings changed by `f`. -/
def updSettings (f : TetherSettings → TetherSettings) (s : State) : State :=
  { s with tether := { s.tether with settings := f s.tether.settings } }

/-- CONF_CAPTURE_FLOOR, R4: a waiting development is tested again. -/
def execConfCaptureFloor (ch : Channel) (s : State) : Result :=
  runConf 0 (fun t => [t.store.floor])
    (within 0 1024 fun v t => retryWait (updStore (fun k => { k with floor := v }) t)) ch s

/-- CONF_SPACE_WARNING_LEVEL, R5: the space condition is tested again. -/
def execConfSpaceWarningLevel (ch : Channel) (s : State) : Result :=
  runConf 1 (fun t => [t.store.warnLevel])
    (within 0 4032 fun v t => spaceTest (updStore (fun k => { k with warnLevel := v }) t)) ch s

/-- CONF_LOSS_INTERVAL, R32: from the next reload of each timer. -/
def execConfLossInterval (ch : Channel) (s : State) : Result :=
  runConf 2 (fun t => [t.intake.lossInterval])
    (within 1 255 fun v t => updIntake (fun i => { i with lossInterval := v }) t) ch s

/-- CONF_STALE_PERIOD, R38: from the next load of the timer. -/
def execConfStalePeriod (ch : Channel) (s : State) : Result :=
  runConf 3 (fun t => [t.intake.stalePeriod])
    (within 1 1000 fun v t => updIntake (fun i => { i with stalePeriod := v }) t) ch s

/-- CONF_DRIVE_TIMEOUT, R86: for drives sent afterwards. -/
def execConfDriveTimeout (ch : Channel) (s : State) : Result :=
  runConf 4 (fun t => [t.lens.driveTimeout])
    (within 10 5000 fun v t => updLens (fun l => { l with driveTimeout := v }) t) ch s

/-- CONF_CONFIDENCE_THRESHOLD, R94: from the next measurement. -/
def execConfConfidenceThreshold (ch : Channel) (s : State) : Result :=
  runConf 5 (fun t => [t.focus.threshold])
    (within 0 255 fun v t => updFocus (fun f => { f with threshold := v }) t) ch s

/-- CONF_DEADBAND, R94: from the next measurement. -/
def execConfDeadband (ch : Channel) (s : State) : Result :=
  runConf 6 (fun t => [t.focus.deadband])
    (within 0 255 fun v t => updFocus (fun f => { f with deadband := v }) t) ch s

/-- CONF_LOSS_LIMIT, R94: from the next measurement. -/
def execConfLossLimit (ch : Channel) (s : State) : Result :=
  runConf 7 (fun t => [t.focus.lossLimit])
    (within 1 30 fun v t => updFocus (fun f => { f with lossLimit := v }) t) ch s

/-- R139: the card mode set; a change to OVERFLOW redirects at once where slot A is unwritable (R140). -/
def setCardMode (m : CardMode) (s : State) : State :=
  let t := { s with cardMode := m }
  if s.cardMode == m then t else settle (redirectAll t)

/-- CONF_CARD_MODE, R139. -/
def execConfCardMode (ch : Channel) (s : State) : Result :=
  runConf 8 (fun t => [cardModeCode t.cardMode])
    (fun values t =>
      match values with
      | [v] => (cardModeOfCode v).map fun m => setCardMode m t
      | _ => none) ch s

/-- R145: tether power set; power off takes the engine to DOWN, power on with the link up takes it from DOWN to
LINKED. -/
def setPower (on : Bool) (s : State) : State :=
  let t := updSettings (fun k => { k with power := on }) s
  if on then linkGained t else settle (linkLost t)

/-- CONF_TETHER_POWER, R144, R145. -/
def execConfTetherPower (ch : Channel) (s : State) : Result :=
  runConf 9 (fun t => [if t.tether.settings.power then 1 else 0])
    (fun values t =>
      match values with
      | [v] => (switchOfCode v).map fun on => setPower on t
      | _ => none) ch s

/-- CONF_TETHER_FRAME_TYPE, R144: for the next frame taken or sent. -/
def execConfTetherFrameType (ch : Channel) (s : State) : Result :=
  runConf 10 (fun t => [t.tether.settings.frameType.toNat])
    (within 0x0600 0xFFFF fun v t => updSettings (fun k => { k with frameType := BitVec.ofNat 16 v }) t) ch s

/-- R144: the lowest bit of the address's first byte, bit 40, is 0. -/
def stationOk (v : Nat) : Bool := v < 2 ^ 48 && !v.testBit 40

/-- CONF_STATION_ADDRESS, R144: for the next frame taken or sent. -/
def execConfStationAddress (ch : Channel) (s : State) : Result :=
  runConf 11 (fun t => [t.tether.settings.station.toNat])
    (fun values t =>
      match values with
      | [v] => if stationOk v then some (updSettings (fun k => { k with station := BitVec.ofNat 48 v }) t) else none
      | _ => none) ch s

/-- R144: codes that are all listed. -/
def allOf {α : Type} (decode : Nat → Option α) : List Nat → Option (List α)
  | [] => some []
  | v :: rest =>
    match decode v, allOf decode rest with
    | some a, some more => some (a :: more)
    | _, _ => none

/-- R144: 1 to 3 modes in order, without duplicates. -/
def modesOf (values : List Nat) : Option (List Mode) :=
  if 1 ≤ values.length && values.length ≤ 3 && distinct values then allOf modeOfCode values else none

/-- CONF_MODE_PREFERENCE_LIST, R144: at the next OFFER. -/
def execConfModePreferenceList (ch : Channel) (s : State) : Result :=
  runConf 12 (fun t => t.tether.settings.preferences.map modeCode)
    (fun values t => (modesOf values).map fun l => updSettings (fun k => { k with preferences := l }) t) ch s

/-- R144: the three renditions in an order. -/
def rankOf (values : List Nat) : Option (List Rendition) :=
  if values.length == 3 && distinct values then allOf rendOfCode values else none

/-- CONF_RENDITION_RANK, R144, R151: the transfer queue is reordered at once, and a transfer may be selected (R152). -/
def execConfRenditionRank (ch : Channel) (s : State) : Result :=
  runConf 13 (fun t => t.tether.settings.rank.map rendCode)
    (fun values t => (rankOf values).map fun l => selectTransfer (updSettings (fun k => { k with rank := l }) t)) ch s

/-- CONF_NEGOTIATION_TIMEOUT, R144: at the next start of the timer. -/
def execConfNegotiationTimeout (ch : Channel) (s : State) : Result :=
  runConf 14 (fun t => [t.tether.settings.negotiation])
    (within 1 30 fun v t => updSettings (fun k => { k with negotiation := v }) t) ch s

/-- CONF_SILENCE_TIMEOUT, R144: at the next reload of the timer. -/
def execConfSilenceTimeout (ch : Channel) (s : State) : Result :=
  runConf 15 (fun t => [t.tether.settings.silence])
    (within 1 60 fun v t => updSettings (fun k => { k with silence := v }) t) ch s

/-- CONF_ACKNOWLEDGEMENT_TIMEOUT, R144: at the next start of the timer. -/
def execConfAcknowledgementTimeout (ch : Channel) (s : State) : Result :=
  runConf 16 (fun t => [t.tether.settings.acknowledgement])
    (within 50 2000 fun v t => updSettings (fun k => { k with acknowledgement := v }) t) ch s

end Sys2Proof.Machine
end

