-- ==== Sys2Proof/Machine/Loads.lean ====
section
/-! DEFINITION. Table loads (09 section 9.6): the seven LOAD rows, LOAD_UNIT, and what each table's owner does with a
complete image. -/

namespace Sys2Proof.Machine

/-! ## Development status (R122) -/

/-- The output being produced: the last one whose size has been settled, also while its last page is written, and the
first fixed output before that (notes/assumptions/28.md). -/
def outputInHand (w : Work) : Option Rendition := (w.sizes.getLast?.map fun z => z.rend) <|> w.outputs.head?

/-- R122: the output being produced and the pages it holds, as their number and of that output alone (the model's choice,
notes/assumptions/51.md). -/
def producingNow (s : State) (w : Work) : Option (Rendition × Nat) :=
  (shotAt s w.slot).bind fun x => (outputInHand w).map fun r => (r, (rendOf x r).pages.length)

/-- The development in progress. -/
def workStatus (s : State) (w : Work) : WorkStatus :=
  { number := (shotAt s w.slot).bind fun x => x.number, outputs := w.outputs, producing := producingNow s w,
    requeue := w.requeue }

/-- A queued shot's number and editor priority. -/
def queuedShot (s : State) (slot : Nat) : Option Nat × Nat :=
  match shotAt s slot with
  | some x => (x.number, x.priority)
  | none => (none, 0)

/-- R122: the development status. -/
def devStatus (s : State) : DevStatus :=
  { state := s.dev.state, work := s.dev.work.map (workStatus s), queue := s.dev.queue.map (queuedShot s),
    generations := s.dev.bank.map (fun b => (b.generation, b.previous.map fun p => p.1)), counters := s.dev.counters }

/-! ## Owners -/

/-- What the owner of a table answers: status, arguments and the state it leaves. -/
structure Verdict where
  status : Status
  args : Payload
  state : State
deriving DecidableEq, Repr

/-- The image is refused and nothing changes. -/
def refuse (status : Status) (s : State) : Verdict := { status, args := .bytes [], state := s }

/-- The image is installed. -/
def installed (s : State) : Verdict := { status := .done, args := .bytes [], state := s }

/-- R33. -/
def ownGeometry (image : List Byte) (s : State) : Verdict :=
  if s.control.opState == .run then refuse .state s
  else
    match readGeometry image with
    | some g => if geometryOk g then installed (installGeometry g s) else refuse .badtable s
    | none => refuse .badtable s

/-- R51: each record replaces the contents of the slot it names. -/
def placeProfiles (records : List (Nat × Profile)) (table : List (Option Profile)) : List (Option Profile) :=
  records.foldl (fun t r => t.set r.1 (some r.2)) table

/-- R51: a record names the armed slot while capture is not DISARMED. -/
def namesArmed (s : State) (records : List (Nat × Profile)) : Bool :=
  s.capture.state != .disarmed && records.any fun r => s.capture.armed == some r.1

/-- R51. -/
def ownProfiles (image : List Byte) (s : State) : Verdict :=
  match readProfiles image with
  | some records =>
    if !profilesOk records then refuse .badtable s
    else if namesArmed s records then refuse .state s
    else installed (updCapture (fun c => { c with profiles := placeProfiles records c.profiles }) s)
  | none => refuse .badtable s

/-- R16. -/
def ownRouting (image : List Byte) (s : State) : Verdict :=
  match readRouting image with
  | some t =>
    if routingOk t then installed (updStore (fun k => { k with routing := some t }) s) else refuse .badtable s
  | none => refuse .badtable s

/-- R92. -/
def ownSites (image : List Byte) (s : State) : Verdict :=
  match readSites image with
  | some t => if sitesOk t then installed (installSites t s) else refuse .badtable s
  | none => refuse .badtable s

/-- R109: the slot after a recipe is installed; `wanted` says whether a shot still waits on the old generation. -/
def withRecipe (wanted : Bool) (r : Recipe) (b : RecipeSlot) : RecipeSlot :=
  { generation := wrapInc16 b.generation
    current := some r
    previous := if wanted then b.current.map fun old => (b.generation, old) else none }

/-- R109: a recipe becomes the current generation of a slot. -/
def installRecipe (slot : Nat) (r : Recipe) (s : State) : State :=
  let wanted := generationWanted s slot (bankSlot s slot).generation
  { s with dev := { s.dev with bank := updNth (withRecipe wanted r) slot s.dev.bank } }

/-- R108: an image of length 0 installs nothing and reads the development status. -/
def ownRecipe (slot : Nat) (image : List Byte) (s : State) : Verdict :=
  if image.isEmpty then { status := .done, args := .development (devStatus s), state := s }
  else
    match readRecipe image with
    | some r =>
      if recipeOk r then
        let t := installRecipe slot r s
        { status := .done, args := .development (devStatus t), state := t }
      else refuse .badtable s
    | none => refuse .badtable s

/-- R73, R74. -/
def ownLensProfiles (image : List Byte) (s : State) : Verdict :=
  match readLensProfiles image with
  | some t => if lensProfilesOk t then installed (updLens (fun l => { l with profiles := t }) s) else refuse .badtable s
  | none => refuse .badtable s

/-- R72. -/
def ownAliases (image : List Byte) (s : State) : Verdict :=
  match readAliases image with
  | some t => if aliasesOk t then installed (updLens (fun l => { l with aliases := t }) s) else refuse .badtable s
  | none => refuse .badtable s

/-- The owner of the kind takes the image; R174: an image of length 0 is BADTABLE for every kind but RECIPE. -/
def owner (kind : LoadKind) (slot : Nat) (image : List Byte) (s : State) : Verdict :=
  match kind with
  | .recipe => ownRecipe slot image s
  | k =>
    if image.isEmpty then refuse .badtable s
    else
      match k with
      | .geometry => ownGeometry image s
      | .profiles => ownProfiles image s
      | .routing => ownRouting image s
      | .sites => ownSites image s
      | .lensProfiles => ownLensProfiles image s
      | _ => ownAliases image s

/-! ## The load in progress (R174 to R176) -/

/-- R176: the load buffer is emptied and the load-in-progress record becomes none. -/
def closeLoad (s : State) : State := { s with control := { s.control with load := none, loadBuffer := [] } }

/-- R176: a load is answered with the LOAD's tag and code. -/
def answerLoad (l : LoadRecord) (status : Status) (args : Payload) (s : State) : State :=
  sendCells .host (answerCells l.tag l.code status args) s

/-- R175: stray load bytes are counted on the host channel. -/
def countStrayLoad (n : Nat) (s : State) : State :=
  updCounters .host (fun k => { k with strayLoad := satAdd k.strayLoad n }) s

/-- R176: the image is complete and goes to its owner. -/
def handOver (l : LoadRecord) (image : List Byte) (s : State) : State :=
  let v := owner l.kind l.slot image (closeLoad s)
  answerLoad l v.status v.args v.state

/-- R175, R176: bytes gathered for a load: fewer than the declared length stay in the buffer, as many end the load, and
more end it BADTABLE, the bytes beyond counted as stray. -/
def gather (l : LoadRecord) (bytes : List Byte) (s : State) : State :=
  if bytes.length < l.length then { s with control := { s.control with loadBuffer := bytes } }
  else if bytes.length == l.length then handOver l bytes s
  else answerLoad l .badtable (.bytes []) (countStrayLoad (bytes.length - l.length) (closeLoad s))

/-- R174, R175: the record opens and takes what the buffer holds; a declared length of 0 ends the load at once
(notes/assumptions/32.md). -/
def openLoad (l : LoadRecord) (s : State) : State :=
  if l.length == 0 then handOver l [] s
  else gather l s.control.loadBuffer { s with control := { s.control with load := some l } }

/-- R174, check 1: kind, slot (0 where the kind is not RECIPE) and declared length; none where an argument is missing
or out of range. -/
def loadArguments (n : Nat) (fields : List Nat) : Option (LoadKind × Nat × Nat) :=
  match fields with
  | [] => none
  | k :: rest =>
    if k != n then none
    else
      match loadKindOfCode k, rest with
      | some .recipe, [slot, length] => if slot ≤ 3 && length ≤ loadBufferBytes then some (.recipe, slot, length) else none
      | some .recipe, _ => none
      | some kind, [length] => if length ≤ loadBufferBytes then some (kind, 0, length) else none
      | _, _ => none

/-- R174: a LOAD cell of kind `n`. -/
def load (n : Nat) (ch : Channel) (c : Cell) (s : State) : State :=
  match loadArguments n c.fields with
  | none => answerBare ch c .badarg s
  | some (kind, slot, length) =>
    if s.control.load.isSome then
      answerBare ch c .busy (updCounters ch (fun k => { k with busy := satInc k.busy }) s)
    else if kind == .geometry && s.control.opState == .run then answerBare ch c .state s
    else openLoad { kind, slot, length, tag := c.tag, code := c.code } s

/-- The execution of a LOAD cell of kind `n`. -/
def runLoad (n : Nat) (ch : Channel) (s : State) : Result :=
  .next (runCell ch (fun c => c.code == codeLOAD && loadNames n c) (load n ch) s)

/-- LOAD_GEOMETRY, R174. -/
def execLoadGeometry (ch : Channel) (s : State) : Result := runLoad 0 ch s

/-- LOAD_PROFILES, R174. -/
def execLoadProfiles (ch : Channel) (s : State) : Result := runLoad 1 ch s

/-- LOAD_ROUTING, R174. -/
def execLoadRouting (ch : Channel) (s : State) : Result := runLoad 2 ch s

/-- LOAD_SITES, R174. -/
def execLoadSites (ch : Channel) (s : State) : Result := runLoad 3 ch s

/-- LOAD_RECIPE, R174. -/
def execLoadRecipe (ch : Channel) (s : State) : Result := runLoad 4 ch s

/-- LOAD_LENS_PROFILES, R174. -/
def execLoadLensProfiles (ch : Channel) (s : State) : Result := runLoad 5 ch s

/-- LOAD_ALIASES, R174. -/
def execLoadAliases (ch : Channel) (s : State) : Result := runLoad 6 ch s

/-! ## LOAD units (R175) -/

/-- R175: a unit with no load in progress: the buffer keeps at most 65,536 bytes and the rest are counted as stray. -/
def gatherIdle (bytes : List Byte) (s : State) : State :=
  countStrayLoad (bytes.length - loadBufferBytes)
    { s with control := { s.control with loadBuffer := bytes.take loadBufferBytes } }

/-- R175: a LOAD unit's bytes join the buffer. -/
def takeLoadUnit (payload : List Byte) (s : State) : State :=
  let bytes := s.control.loadBuffer ++ payload
  match s.control.load with
  | some l => gather l bytes s
  | none => gatherIdle bytes s

/-- LOAD_UNIT, R175; a payload of another length than 1 to 65,536 is R167's malformed unit. -/
def execLoadUnit (payload : List Byte) (s : State) : Result :=
  .next
    (if !s.pins.hostUp then s
     else if bulkLength payload then takeLoadUnit payload s
     else updCounters .host (fun k => { k with malformed := satInc k.malformed }) s)

end Sys2Proof.Machine
end

