-- ==== Sys2Proof/Machine/ShotCommands.lean ====
section
/-! DEFINITION. Meanings of the commands that act on shots (01 section 1.6) and of DUTY_EXPIRY (R17). -/

namespace Sys2Proof.Machine

/-! ## Naming a shot (R21) -/

/-- R21: arguments are checked first, then the shot is looked up. -/
def onShot (ch : Channel) (c : Cell) (n : Nat) (argsOk : Bool) (act : Shot → State → State) (s : State) : State :=
  if !(shotNumberOk n && argsOk) then answerBare ch c .badarg s
  else
    match shotNumbered s n with
    | none => answerBare ch c .gone s
    | some x => act x s

/-- The command's effect and the answer DONE. -/
def doneAfter (ch : Channel) (c : Cell) (effect : State → State) (s : State) : State :=
  answerBare ch c .done (effect s)

/-- R164: a desk request answered DONE latches DESK_REQUEST on the host channel. -/
def deskDone (ch : Channel) (c : Cell) (effect : State → State) (s : State) : State :=
  raise .deskRequest (doneAfter ch c effect s)

/-! ## Reads (R29) -/

/-- R29: the number of reserved pages. -/
def reservedCount (s : State) : Nat := (s.store.shots.map fun x => x.reservation.length).foldr (· + ·) 0

/-- R29, R7: the place of a starting number in the order of assignment: a number not yet given stands after every
number given (notes/assumptions/21.md). -/
def startKey (s : State) (start : Nat) : Nat :=
  if s.store.nextNumber ≤ start && !(s.store.shots.any fun x => s.store.nextNumber ≤ orZero x.number) then
    start + (u32Max + 1)
  else numberKey s.store.nextNumber start

/-- R29: the answer of SLST. -/
def shotList (start : Nat) (s : State) : ShotListAnswer :=
  { free := s.store.free.length, reserved := reservedCount s, low := s.store.low, floor := s.store.floor,
    warnLevel := s.store.warnLevel, provisional := (s.store.shots.filter fun x => x.provisional).length,
    shots := ((shotsInOrder s).filter fun x => startKey s start ≤ shotKey s x).map fun x => (orZero x.number, x.state) }

/-- SLST, R29. -/
def execSlst (ch : Channel) (s : State) : Result :=
  .next (runCode ch codeSLST (fun c t =>
    match c.fields with
    | [start] =>
      if shotNumberOk start then answer ch c .done (.shotList (shotList start t)) t else answerBare ch c .badarg t
    | _ => answerBare ch c .badarg t) s)

/-- Image bytes that one SHOT answer holds beside the total length (notes/assumptions/22.md). -/
def shotAnswerBytes : Nat := 46

/-- SHOT, R29. -/
def execShot (ch : Channel) (s : State) : Result :=
  .next (runCode ch codeSHOT (fun c t =>
    match c.fields with
    | [n, offset] =>
      onShot ch c n true (fun x u =>
        answer ch c .done
          (.shotImage (imageBytes x).length (((imageBytes x).drop offset).take shotAnswerBytes)) u) t
    | _ => answerBare ch c .badarg t) s)

/-! ## Holds (R22, R23) -/

/-- HOLD, R22. -/
def execHold (ch : Channel) (s : State) : Result :=
  .next (runCode ch codeHOLD (fun c t =>
    match c.fields with
    | [n] => onShot ch c n true (fun x => doneAfter ch c (updShot x.slot fun y => { y with hostHold := true })) t
    | _ => answerBare ch c .badarg t) s)

/-- R22: after the last hold is cleared: the need test on each READY rendition, then the retirement test. That RAW is
tested before DEV and DEV before PRV is the model's (notes/assumptions/37.md). -/
def holdsCleared (slot : Nat) (s : State) : State :=
  match shotAt s slot with
  | some x =>
    if x.hostHold || x.deskHold then s
    else retireTest slot (readyTest slot .prv (readyTest slot .dev (readyTest slot .raw s)))
  | none => s

/-- UNHD, R22. -/
def execUnhd (ch : Channel) (s : State) : Result :=
  .next (runCode ch codeUNHD (fun c t =>
    match c.fields with
    | [n] =>
      onShot ch c n true (fun x =>
        doneAfter ch c fun u =>
          if x.hostHold then holdsCleared x.slot (updShot x.slot (fun y => { y with hostHold := false }) u) else u) t
    | _ => answerBare ch c .badarg t) s)

/-- R23: the shots of the table that carry a desk hold. -/
def deskHoldCount (s : State) : Nat := (s.store.shots.filter fun x => x.deskHold).length

/-- DHLD, R23. -/
def execDhld (ch : Channel) (s : State) : Result :=
  .next (runCode ch codeDHLD (fun c t =>
    match c.fields with
    | [n] =>
      onShot ch c n true (fun x u =>
        if !x.deskHold && maxDeskHolds ≤ deskHoldCount u then answerBare ch c .full u
        else deskDone ch c (updShot x.slot fun y => { y with deskHold := true }) u) t
    | _ => answerBare ch c .badarg t) s)

/-- DUNH, R23. -/
def execDunh (ch : Channel) (s : State) : Result :=
  .next (runCode ch codeDUNH (fun c t =>
    match c.fields with
    | [n] =>
      onShot ch c n true (fun x =>
        deskDone ch c fun u =>
          if x.deskHold then holdsCleared x.slot (updShot x.slot (fun y => { y with deskHold := false }) u) else u) t
    | _ => answerBare ch c .badarg t) s)

/-! ## Priority (R24) -/

/-- R24: the editor priority set, reported to the development engine and to the tether engine, which selects at each
reordering of its queue (R152). -/
def setPriority (slot value : Nat) (s : State) : State :=
  selectTransfer (moveInQueue slot (updShot slot (fun y => { y with priority := value }) s))

/-- PRIO, R24. -/
def execPrio (ch : Channel) (s : State) : Result :=
  .next (runCode ch codePRIO (fun c t =>
    match c.fields with
    | [n, v] => onShot ch c n (v ≤ 7) (fun x => doneAfter ch c (setPriority x.slot v)) t
    | _ => answerBare ch c .badarg t) s)

/-- RUSH, R24. -/
def execRush (ch : Channel) (s : State) : Result :=
  .next (runCode ch codeRUSH (fun c t =>
    match c.fields with
    | [n, v] => onShot ch c n (v ≤ 7) (fun x => deskDone ch c (setPriority x.slot v)) t
    | _ => answerBare ch c .badarg t) s)

/-! ## Waivers (R25, R26) -/

/-- R25, R136: an ACTIVE card duty: its write is stopped. -/
def waiveCard (k : CardSlot) (x : Shot) (r : Rendition) (reason : Reason) (s : State) : State :=
  match (card s k).write with
  | some w =>
    if w.slot == x.slot && w.rend == r then waiveWrite k w reason s
    else endDuty x.slot (destOfSlot k) r .waived (some reason) s
  | none => endDuty x.slot (destOfSlot k) r .waived (some reason) s

/-- R25, R160: an ACTIVE desk duty: its transfer is stopped. -/
def waiveDesk (x : Shot) (r : Rendition) (reason : Reason) (s : State) : State :=
  match s.tether.transfer with
  | some t => if t.slot == x.slot && t.rend == r then stopTransfer t reason s
    else endDuty x.slot .desk r .waived (some reason) s
  | none => endDuty x.slot .desk r .waived (some reason) s

/-- R25: a duty ended without delivery, by its state. -/
def waive (x : Shot) (d : Dest) (r : Rendition) (st : DutyState) (reason : Reason) (s : State) : State :=
  match st with
  | .owed => endDuty x.slot d r .waived (some reason) s
  | .active =>
    match slotOfDest d with
    | some k => waiveCard k x r reason s
    | none => waiveDesk x r reason s
  | _ => s

/-- R25: the waiver of one pair by the host; GONE where the shot has no such duty. -/
def waivePair (ch : Channel) (c : Cell) (d : Dest) (r : Rendition) (x : Shot) (s : State) : State :=
  match dutyOf x d r with
  | none => answerBare ch c .gone s
  | some y => doneAfter ch c (fun t => settle (waive x d r y.state .byHost t)) s

/-- R26: a DESK duty ended by the desk, by its state. -/
def skip (x : Shot) (r : Rendition) (st : DutyState) (s : State) : State :=
  match st with
  | .owed => endDuty x.slot .desk r .waived (some .skipped) s
  | .active => waiveDesk x r .skipped s
  | _ => s

/-- R26: the waiver of one DESK duty by the desk; GONE where the shot has none for the rendition. It makes no card duty
eligible, so only the tether engine selects. -/
def skipPair (ch : Channel) (c : Cell) (r : Rendition) (x : Shot) (s : State) : State :=
  match dutyOf x .desk r with
  | none => answerBare ch c .gone s
  | some y => doneAfter ch c (fun t => selectTransfer (skip x r y.state t)) s

/-- WAIV, R25. -/
def execWaiv (ch : Channel) (s : State) : Result :=
  .next (runCode ch codeWAIV (fun c t =>
    match c.fields with
    | [n, d, r] =>
      match destOfCode d, rendOfCode r with
      | some dest, some rend => onShot ch c n true (waivePair ch c dest rend) t
      | _, _ => answerBare ch c .badarg t
    | _ => answerBare ch c .badarg t) s)

/-- SKIP, R26. -/
def execSkip (ch : Channel) (s : State) : Result :=
  .next (runCode ch codeSKIP (fun c t =>
    match c.fields with
    | [n, r] =>
      match rendOfCode r with
      | some rend => onShot ch c n true (skipPair ch c rend) t
      | none => answerBare ch c .badarg t
    | _ => answerBare ch c .badarg t) s)

/-! ## PULL (R27) -/

/-- R27, R20: a DESK duty created at the end of the list, or the MET one reopened in its place. -/
def claimDuty (now : Nat) (expiry : Option Nat) (r : Rendition) (x : Shot) : Shot :=
  match dutyOf x .desk r with
  | some _ =>
    updDuty .desk r (fun d => { d with state := .owed, reason := none, created := now, expiry }) x
  | none =>
    { x with
      duties := x.duties ++ [{ dest := .desk, rend := r, state := .owed, reason := none, created := now, expiry }] }

/-- R27, R15: the duty is OWED, and the shot OPEN if it was SETTLED. -/
def claim (r : Rendition) (x : Shot) (s : State) : State :=
  let now := s.control.timeBase
  updShot x.slot (fun y => reassessed (claimDuty now (expiryAfter now (classEntry s x.cls).lifetime) r y)) s

/-- R27: a RELEASED or ABSENT output brought back to PENDING. -/
def claimAgain (r : Rendition) (x : Shot) (s : State) : State :=
  joinQueue x.slot (updShot x.slot (setRend r fun k => { k with state := .pending }) (claim r x s))

/-- R27: the desk's duty on the rendition is closed to PULL or already stands. -/
def claimed (x : Shot) (r : Rendition) : Bool :=
  match dutyOf x .desk r with
  | some d => d.state != .met
  | none => false

/-- R27: PULL on a shot of the table. -/
def pull (ch : Channel) (c : Cell) (r : Rendition) (x : Shot) (s : State) : State :=
  if claimed x r then deskDone ch c (fun t => t) s
  else
    match (rendOf x r).state with
    | .ready => deskDone ch c (fun t => selectTransfer (claim r x t)) s
    | .pending => deskDone ch c (claim r x) s
    | .filling => if r == .raw then answerBare ch c .state s else deskDone ch c (claim r x) s
    | _ =>
      if r != .raw && x.raw.state == .ready then deskDone ch c (claimAgain r x) s else answerBare ch c .gone s

/-- PULL, R27. -/
def execPull (ch : Channel) (s : State) : Result :=
  .next (runCode ch codePULL (fun c t =>
    match c.fields with
    | [n, r] =>
      match rendOfCode r with
      | some rend => onShot ch c n true (pull ch c rend) t
      | none => answerBare ch c .badarg t
    | _ => answerBare ch c .badarg t) s)

/-! ## CAPN (R28) -/

/-- R28: the entry joins the chain, or would take it above 1,024 bytes. -/
def appendEntry (ch : Channel) (c : Cell) (ident : Nat) (x : Shot) (s : State) : State :=
  if maxChainBytes < chainLength x.chain + 4 + c.data.length then answerBare ch c .full s
  else
    answerBare ch c .done (updShot x.slot (fun y => { y with chain := y.chain ++ [{ ident, data := c.data }] }) s)

/-- CAPN, R28; its argument holds 1 to 42 bytes of data (10 section 10.6). -/
def execCapn (ch : Channel) (s : State) : Result :=
  .next (runCode ch codeCAPN (fun c t =>
    match c.fields with
    | [n, ident] =>
      onShot ch c n (ident ≤ 65535 && 1 ≤ c.data.length && c.data.length ≤ 42) (appendEntry ch c ident) t
    | _ => answerBare ch c .badarg t) s)

/-! ## Expiry of a DESK duty (R17) -/

/-- The expiry time of a shot's OWED DESK duty on a rendition. -/
def owedExpiry (x : Shot) (r : Rendition) : Option Nat :=
  match dutyOf x .desk r with
  | some d => if d.state == .owed then d.expiry else none
  | none => none

/-- R17: the time base reaches the duty's expiry time and the duty becomes WAIVED EXPIRED. -/
def expireDuty (x : Shot) (r : Rendition) (e : Nat) (s : State) : State :=
  settle (endDuty x.slot .desk r .waived (some .expired) (elapse (e - s.control.timeBase) s))

/-- DUTY_EXPIRY, R17. -/
def execDutyExpiry (number : Nat) (rend : Rendition) (s : State) : Result :=
  .next
    (match shotNumbered s number with
     | none => s
     | some x =>
       match owedExpiry x rend with
       | none => s
       | some e => expireDuty x rend e s)

end Sys2Proof.Machine
end

