-- ==== Sys2Proof/Machine/TetherCommands.lean ====
section
/-! DEFINITION. Meanings of the tether engine's commands (08): TRST, ECHO and MIRR, the Ethernet link, the frames from
the desk, the port and the three timers. -/

namespace Sys2Proof.Machine

/-! ## TRST, ECHO, MIRR (R161 to R163) -/

/-- R163, steps 2 and 3: LINKED or DOWN, with result NOT_BOUND. -/
def relink (s : State) : State :=
  if s.pins.etherUp && s.tether.settings.power then enterLinked s else enterDown (setRecord none 0 .notBound s)

/-- R163, step 4. -/
def clearBinding (s : State) : State :=
  { s with tether := { s.tether with mirrorOn := false, mirror := none, desk := none } }

/-- R163, step 5: queue, latches, notice flag and mask of the desk channel; its counters stay. -/
def clearDesk (s : State) : State :=
  { s with deskChan := { s.deskChan with queue := [], latches := 0, mask := 0, notice := false } }

/-- R163: the tether reset. -/
def tetherReset (s : State) : State :=
  clearDesk (clearBinding (relink (if s.tether.link == .bound then endBinding s else s)))

/-- R162, R163, R164: an answer with the tether status. -/
def answerTether (ch : Channel) (c : Cell) (st : Status) (s : State) : State :=
  answer ch c st (.tether (tetherStatus s)) s

/-- TRST, R163. -/
def execTrst (ch : Channel) (s : State) : Result :=
  .next (runCode ch codeTRST (fun c t => answerTether ch c .done (settle (tetherReset t))) s)

/-- R162: the engine enters ECHO and the negotiation timer stops. -/
def enterEcho (s : State) : State := { s with tether := { s.tether with link := .echo, negTimer := none } }

/-- R162: echo on; none in DOWN. From BOUND, mode and window are cleared (notes/assumptions/44.md). -/
def echoOn (s : State) : Option State :=
  match s.tether.link with
  | .down => none
  | .linked => some (enterEcho s)
  | .bound => some (settle (enterEcho (setRecord none 0 .notBound (endBinding s))))
  | .echo => some s

/-- R162: echo off. -/
def echoOff (s : State) : State := if s.tether.link == .echo then enterLinked s else s

/-- ECHO, R162. Every answer it gives carries the tether status, STATE and BADARG among them (R164;
notes/assumptions/48.md). -/
def execEcho (ch : Channel) (s : State) : Result :=
  .next (runCode ch codeECHO (fun c t =>
    match c.fields with
    | [v] =>
      match switchOfCode v with
      | some true =>
        match echoOn t with
        | some u => answerTether ch c .done u
        | none => answerTether ch c .state t
      | some false => answerTether ch c .done (echoOff t)
      | none => answerTether ch c .badarg t
    | _ => answerTether ch c .badarg t) s)

/-- MIRR, R161. -/
def execMirr (ch : Channel) (s : State) : Result :=
  .next (runCode ch codeMIRR (fun c t =>
    match c.fields with
    | [v] =>
      match switchOfCode v with
      | some on => answerBare ch c .done (setMirror on t)
      | none => answerBare ch c .badarg t
    | _ => answerBare ch c .badarg t) s)

/-! ## The Ethernet link (R145) -/

/-- The level of the Ethernet link. -/
def setEther (up : Bool) (s : State) : State := { s with pins := { s.pins with etherUp := up } }

/-- ETHERNET_LINK_UP, R145: a change to up. -/
def execEthernetLinkUp (s : State) : Result := .next (if s.pins.etherUp then s else linkGained (setEther true s))

/-- ETHERNET_LINK_DOWN, R145: a change to down. -/
def execEthernetLinkDown (s : State) : Result :=
  .next (if s.pins.etherUp then settle (linkLost (setEther false s)) else s)

/-! ## Frames from the desk (R143) -/

/-- OFFER, R147. -/
def execOffer (env : Envelope) (modes windowLimit : Byte) (s : State) : Result :=
  .next (receive env (.offer env modes windowLimit) (fun t => settle (negotiate env.src modes windowLimit t)) s)

/-- R183: an unlisted rendition code makes the frame malformed. -/
def withRend (rend : Byte) (act : Rendition → State → State) (s : State) : State :=
  match rendOfCode rend.toNat with
  | some r => act r s
  | none => countMalformed s

/-- ACK, R153, R156. -/
def execAck (env : Envelope) (number : Word32) (rend : Byte) (offset : Word32) (s : State) : Result :=
  .next
    (receive env (.ack env number rend offset)
      (withRend rend fun r => fromBoundDesk env fun t => settle (takeAck number.toNat r offset.toNat t)) s)

/-- ABORT, R159. -/
def execAbort (env : Envelope) (number : Word32) (rend : Byte) (s : State) : Result :=
  .next
    (receive env (.abort env number rend)
      (withRend rend fun r => fromBoundDesk env fun t => settle (takeAbort number.toNat r t)) s)

/-- CONTROL, R150: the cell reaches the desk channel. -/
def execControl (env : Envelope) (cell : Cell) (s : State) : Result :=
  .next (receive env (.control env cell) (fromBoundDesk env (takeCell .desk cell)) s)

/-- R143: an IDLE frame beyond the silence timer's reload. -/
def takeIdle (env : Envelope) (s : State) : State :=
  if s.tether.link == .bound && !fromDesk s env then countForeign s else s

/-- IDLE, R143, R149. -/
def execIdle (env : Envelope) (s : State) : Result := .next (receive env (.idle env) (takeIdle env) s)

/-- MALFORMED_TETHER_FRAME, R143. -/
def execMalformedTetherFrame (env : Envelope) (body : List Byte) (s : State) : Result :=
  .next (receive env (.malformedTetherFrame env body) countMalformed s)

/-- UNEXPECTED_TETHER_FRAME, R143. -/
def execUnexpectedTetherFrame (env : Envelope) (body : List Byte) (s : State) : Result :=
  .next (receive env (.unexpectedTetherFrame env body) countUnexpected s)

/-! ## The port and the timers -/

/-- PORT_TAKES_FRAME, R155. -/
def execPortTakesFrame (s : State) : Result := .next (portTakesNext s)

/-- NEGOTIATION_TIMER_EXPIRY, R148. -/
def execNegotiationTimerExpiry (s : State) : Result :=
  .next (onExpiry s.tether.negTimer
    (fun t => { t with tether := { t.tether with result := .timeout, negTimer := none } }) s)

/-- SILENCE_TIMER_EXPIRY, R149. -/
def execSilenceTimerExpiry (s : State) : Result :=
  .next (onExpiry s.tether.silenceTimer (fun t => settle (loseBinding t)) s)

/-- The acknowledgement timer of the active transfer. -/
def ackTimer (s : State) : Timer := s.tether.transfer.bind fun t => t.timer

/-- R157, on the active transfer. -/
def ackExpired (s : State) : State :=
  match s.tether.transfer with
  | some t => settle (ackExpiry t s)
  | none => s

/-- ACK_TIMER_EXPIRY, R157. -/
def execAckTimerExpiry (s : State) : Result := .next (onExpiry (ackTimer s) ackExpired s)

end Sys2Proof.Machine
end

