-- ==== Sys2Proof/Machine/Tick.lean ====
section
/-! DEFINITION. The idle tick: with no command waiting one microsecond passes, the host link takes a cell, and what is
then due becomes a command (notes/assumptions/1.md, 4.md and 19.md). -/

namespace Sys2Proof.Machine

/-! ## What is due -/

/-- A command for a timer that has run out. -/
def dueIf (t : Timer) (c : Instr) : List Instr := if t == some 0 then [c] else []

/-- R32. -/
def dueLanes (s : State) : List Instr :=
  ([0, 1, 2, 3] : List (Fin 4)).flatMap fun l => dueIf (laneAt s l.val).timer (.lossTimerExpiry l)

/-- R124, R132: a slot's timers. -/
def dueCard (s : State) (k : CardSlot) : List Instr :=
  dueIf (card s k).mountTimer (.mountTimeout k) ++ dueIf (writeTimer s k) (.writeTimerExpiry k)

/-- R76, R79, R87, R88. -/
def dueLens (l : Lens) : List Instr :=
  dueIf l.answerTimer .answerTimeout ++ dueIf l.waitTimer .waitTimerExpiry ++ dueIf l.driveTimer .driveTimerExpiry ++
    dueIf l.reprobeTimer .reprobeTimerExpiry

/-- R148, R149, R157. -/
def dueTether (s : State) : List Instr :=
  dueIf s.tether.negTimer .negotiationTimerExpiry ++ dueIf s.tether.silenceTimer .silenceTimerExpiry ++
    dueIf (ackTimer s) .ackTimerExpiry

/-- R17: the OWED DESK duties of a shot whose expiry time the time base has reached. -/
def dueDuties (now : Nat) (x : Shot) : List Instr :=
  ([.raw, .dev, .prv] : List Rendition).flatMap fun r =>
    match owedExpiry x r with
    | some e => if e ≤ now then [.dutyExpiry (orZero x.number) r] else []
    | none => []

/-- Every timer command that is due. -/
def dueCommands (s : State) : List Instr :=
  dueLanes s ++ dueIf (staleTimer s) .staleTimerExpiry ++ dueIf s.intake.patternTimer .patternTick ++
    dueLens s.lens ++ dueCard s .a ++ dueCard s .b ++ dueTether s ++
    s.store.shots.flatMap (dueDuties s.control.timeBase)

/-! ## Execution of queued cells (R168) -/

/-- The row of a CONF cell. -/
def confRow (ch : Channel) (fields : List Nat) : Instr :=
  match fields.headD 0 with
  | 1 => .confSpaceWarningLevel ch
  | 2 => .confLossInterval ch
  | 3 => .confStalePeriod ch
  | 4 => .confDriveTimeout ch
  | 5 => .confConfidenceThreshold ch
  | 6 => .confDeadband ch
  | 7 => .confLossLimit ch
  | 8 => .confCardMode ch
  | 9 => .confTetherPower ch
  | 10 => .confTetherFrameType ch
  | 11 => .confStationAddress ch
  | 12 => .confModePreferenceList ch
  | 13 => .confRenditionRank ch
  | 14 => .confNegotiationTimeout ch
  | 15 => .confSilenceTimeout ch
  | 16 => .confAcknowledgementTimeout ch
  | _ => .confCaptureFloor ch

/-- The row of a LOAD cell. -/
def loadRow (ch : Channel) (fields : List Nat) : Instr :=
  match fields.headD 0 with
  | 1 => .loadProfiles ch
  | 2 => .loadRouting ch
  | 3 => .loadSites ch
  | 4 => .loadRecipe ch
  | 5 => .loadLensProfiles ch
  | 6 => .loadAliases ch
  | _ => .loadGeometry ch

/-- The rows of the codes that are one row each. -/
def codeRows (ch : Channel) : List (Word32 × Instr) :=
  [(codeIDNT, .idnt ch), (codeRUNM, .runm ch), (codeSTBY, .stby ch), (codePRST, .prst ch), (codeTRST, .trst ch),
   (codeECHO, .echo ch), (codeARMC, .armc ch), (codeDSRM, .dsrm ch), (codeFIRE, .fire ch), (codeCEAS, .ceas ch),
   (codeFTGT, .ftgt ch), (codeSRCS, .srcs ch), (codeLPRB, .lprb ch), (codeSLST, .slst ch), (codeSHOT, .shot ch),
   (codeBLOG, .blog ch), (codeHOLD, .hold ch), (codeUNHD, .unhd ch), (codeWAIV, .waiv ch), (codePRIO, .prio ch),
   (codeDHLD, .dhld ch), (codeDUNH, .dunh ch), (codePULL, .pull ch), (codeRUSH, .rush ch), (codeSKIP, .skip ch),
   (codeMIRR, .mirr ch), (codeCAPN, .capn ch), (codeXTNT, .xtnt ch), (codePLRD, .plrd ch), (codeCPWR, .cpwr ch),
   (codeEVRD, .evrd ch), (codeEVMK, .evmk ch)]

/-- The row that executes a cell. -/
def rowOf (ch : Channel) (c : Cell) : Instr :=
  if c.code == codeCONF then confRow ch c.fields
  else if c.code == codeLOAD then loadRow ch c.fields
  else
    match (codeRows ch).find? fun p => p.1 == c.code with
    | some p => p.2
    | none => .unknownCode ch

/-- R168: the execution of the oldest cell of a channel's queue. -/
def queueRow (s : State) (ch : Channel) : List Instr :=
  match (chan s ch).queue with
  | [] => []
  | c :: _ => [rowOf ch c]

/-! ## The host link -/

/-- The answer after whose last bit the part resets (R177). -/
def isResetAnswer (c : OutCell) : Bool := c.code == codePRST && c.status == .done

/-- R166: the host link takes the cell that has been ready longest. -/
def takeReadyCell (s : State) : State :=
  if s.pins.hostUp then
    match s.control.ready with
    | [] => s
    | c :: rest => { s with control := { s.control with ready := rest, lastTaken := some (cellBytes c) } }
  else s

/-- R177: a tick of this state lets the answer of a PRST leave. -/
def resetAnswerLeaves (s : State) : Bool :=
  s.pins.hostUp &&
    match s.control.ready with
    | [] => false
    | c :: _ => isResetAnswer c

/-- R177: the part reset is due: it is awaited, and its answer has left or is no longer ready. -/
def resetDue (left : Bool) (s : State) : Bool :=
  s.control.resetAwaited && (left || !s.control.ready.any isResetAnswer)

/-- What is due after a tick, in which a PRST's answer left or not. -/
def dueNow (left : Bool) (s : State) : List Instr :=
  dueCommands s ++ (if resetDue left s then [.partReset] else []) ++ queueRow s .host ++ queueRow s .desk

/-- One microsecond with no command waiting. -/
def idleTick (s : State) : State :=
  let s1 := elapse 1 (takeReadyCell s)
  { s1 with pending := dueNow (resetAnswerLeaves s) s1 }

end Sys2Proof.Machine
end

