-- ==== Sys2Proof/Machine/Dispatch.lean ====
section
/-! DEFINITION. One arm per command: the call of its meaning. -/

namespace Sys2Proof.Machine

def exec (i : Instr) (s : State) : Host.Outcome State Fault Refusal :=
  match i with
  | .powerOn pins => Sys2Proof.Machine.execPowerOn pins s
  | .partReset => Sys2Proof.Machine.execPartReset s
  | .commandCell ch cell => Sys2Proof.Machine.execCommandCell ch cell s
  | .malformedHostUnit => Sys2Proof.Machine.execMalformedHostUnit s
  | .unknownCode ch => Sys2Proof.Machine.execUnknownCode ch s
  | .idnt ch => Sys2Proof.Machine.execIdnt ch s
  | .runm ch => Sys2Proof.Machine.execRunm ch s
  | .stby ch => Sys2Proof.Machine.execStby ch s
  | .confCaptureFloor ch => Sys2Proof.Machine.execConfCaptureFloor ch s
  | .confSpaceWarningLevel ch => Sys2Proof.Machine.execConfSpaceWarningLevel ch s
  | .confLossInterval ch => Sys2Proof.Machine.execConfLossInterval ch s
  | .confStalePeriod ch => Sys2Proof.Machine.execConfStalePeriod ch s
  | .confDriveTimeout ch => Sys2Proof.Machine.execConfDriveTimeout ch s
  | .confConfidenceThreshold ch => Sys2Proof.Machine.execConfConfidenceThreshold ch s
  | .confDeadband ch => Sys2Proof.Machine.execConfDeadband ch s
  | .confLossLimit ch => Sys2Proof.Machine.execConfLossLimit ch s
  | .confCardMode ch => Sys2Proof.Machine.execConfCardMode ch s
  | .confTetherPower ch => Sys2Proof.Machine.execConfTetherPower ch s
  | .confTetherFrameType ch => Sys2Proof.Machine.execConfTetherFrameType ch s
  | .confStationAddress ch => Sys2Proof.Machine.execConfStationAddress ch s
  | .confModePreferenceList ch => Sys2Proof.Machine.execConfModePreferenceList ch s
  | .confRenditionRank ch => Sys2Proof.Machine.execConfRenditionRank ch s
  | .confNegotiationTimeout ch => Sys2Proof.Machine.execConfNegotiationTimeout ch s
  | .confSilenceTimeout ch => Sys2Proof.Machine.execConfSilenceTimeout ch s
  | .confAcknowledgementTimeout ch => Sys2Proof.Machine.execConfAcknowledgementTimeout ch s
  | .loadGeometry ch => Sys2Proof.Machine.execLoadGeometry ch s
  | .loadProfiles ch => Sys2Proof.Machine.execLoadProfiles ch s
  | .loadRouting ch => Sys2Proof.Machine.execLoadRouting ch s
  | .loadSites ch => Sys2Proof.Machine.execLoadSites ch s
  | .loadRecipe ch => Sys2Proof.Machine.execLoadRecipe ch s
  | .loadLensProfiles ch => Sys2Proof.Machine.execLoadLensProfiles ch s
  | .loadAliases ch => Sys2Proof.Machine.execLoadAliases ch s
  | .prst ch => Sys2Proof.Machine.execPrst ch s
  | .trst ch => Sys2Proof.Machine.execTrst ch s
  | .echo ch => Sys2Proof.Machine.execEcho ch s
  | .armc ch => Sys2Proof.Machine.execArmc ch s
  | .dsrm ch => Sys2Proof.Machine.execDsrm ch s
  | .fire ch => Sys2Proof.Machine.execFire ch s
  | .ceas ch => Sys2Proof.Machine.execCeas ch s
  | .ftgt ch => Sys2Proof.Machine.execFtgt ch s
  | .srcs ch => Sys2Proof.Machine.execSrcs ch s
  | .lprb ch => Sys2Proof.Machine.execLprb ch s
  | .slst ch => Sys2Proof.Machine.execSlst ch s
  | .shot ch => Sys2Proof.Machine.execShot ch s
  | .blog ch => Sys2Proof.Machine.execBlog ch s
  | .hold ch => Sys2Proof.Machine.execHold ch s
  | .unhd ch => Sys2Proof.Machine.execUnhd ch s
  | .waiv ch => Sys2Proof.Machine.execWaiv ch s
  | .prio ch => Sys2Proof.Machine.execPrio ch s
  | .dhld ch => Sys2Proof.Machine.execDhld ch s
  | .dunh ch => Sys2Proof.Machine.execDunh ch s
  | .pull ch => Sys2Proof.Machine.execPull ch s
  | .rush ch => Sys2Proof.Machine.execRush ch s
  | .skip ch => Sys2Proof.Machine.execSkip ch s
  | .mirr ch => Sys2Proof.Machine.execMirr ch s
  | .capn ch => Sys2Proof.Machine.execCapn ch s
  | .xtnt ch => Sys2Proof.Machine.execXtnt ch s
  | .plrd ch => Sys2Proof.Machine.execPlrd ch s
  | .cpwr ch => Sys2Proof.Machine.execCpwr ch s
  | .evrd ch => Sys2Proof.Machine.execEvrd ch s
  | .evmk ch => Sys2Proof.Machine.execEvmk ch s
  | .hostLinkUp => Sys2Proof.Machine.execHostLinkUp s
  | .hostLinkDown => Sys2Proof.Machine.execHostLinkDown s
  | .loadUnit payload => Sys2Proof.Machine.execLoadUnit payload s
  | .injectUnit payload => Sys2Proof.Machine.execInjectUnit payload s
  | .liveUnitTaken => Sys2Proof.Machine.execLiveUnitTaken s
  | .frameStart checkOk counter => Sys2Proof.Machine.execFrameStart checkOk counter s
  | .line lane checkOk number kind samples => Sys2Proof.Machine.execLine lane checkOk number kind samples s
  | .embedded checkOk data => Sys2Proof.Machine.execEmbedded checkOk data s
  | .frameEnd checkOk => Sys2Proof.Machine.execFrameEnd checkOk s
  | .fillerSequence lane => Sys2Proof.Machine.execFillerSequence lane s
  | .lossTimerExpiry lane => Sys2Proof.Machine.execLossTimerExpiry lane s
  | .staleTimerExpiry => Sys2Proof.Machine.execStaleTimerExpiry s
  | .patternTick => Sys2Proof.Machine.execPatternTick s
  | .releaseLineChange level => Sys2Proof.Machine.execReleaseLineChange level s
  | .focusLineChange level => Sys2Proof.Machine.execFocusLineChange level s
  | .dutyExpiry number rend => Sys2Proof.Machine.execDutyExpiry number rend s
  | .lensPresentAsserted => Sys2Proof.Machine.execLensPresentAsserted s
  | .lensPresentNegated => Sys2Proof.Machine.execLensPresentNegated s
  | .probePhase nibble => Sys2Proof.Machine.execProbePhase nibble s
  | .capabilityReport late first last classes apertureMin apertureMax => Sys2Proof.Machine.execCapabilityReport late first last classes apertureMin apertureMax s
  | .accept late => Sys2Proof.Machine.execAccept late s
  | .reject late => Sys2Proof.Machine.execReject late s
  | .wait late => Sys2Proof.Machine.execWait late s
  | .paramValue late value => Sys2Proof.Machine.execParamValue late value s
  | .paramDone late => Sys2Proof.Machine.execParamDone late s
  | .paramRefused late => Sys2Proof.Machine.execParamRefused late s
  | .arrived position => Sys2Proof.Machine.execArrived position s
  | .abortAck late position => Sys2Proof.Machine.execAbortAck late position s
  | .status position aperture => Sys2Proof.Machine.execStatus position aperture s
  | .answerTimeout => Sys2Proof.Machine.execAnswerTimeout s
  | .waitTimerExpiry => Sys2Proof.Machine.execWaitTimerExpiry s
  | .driveTimerExpiry => Sys2Proof.Machine.execDriveTimerExpiry s
  | .reprobeTimerExpiry => Sys2Proof.Machine.execReprobeTimerExpiry s
  | .measurementComplete frame => Sys2Proof.Machine.execMeasurementComplete frame s
  | .devPageRequest sizes => Sys2Proof.Machine.execDevPageRequest sizes s
  | .developmentComplete => Sys2Proof.Machine.execDevelopmentComplete s
  | .cardDetectAsserted slot => Sys2Proof.Machine.execCardDetectAsserted slot s
  | .mountAnswer slot capacity => Sys2Proof.Machine.execMountAnswer slot capacity s
  | .mountTimeout slot => Sys2Proof.Machine.execMountTimeout slot s
  | .cardDetectNegated slot => Sys2Proof.Machine.execCardDetectNegated slot s
  | .writeProtectChange slot level => Sys2Proof.Machine.execWriteProtectChange slot level s
  | .overCurrent slot => Sys2Proof.Machine.execOverCurrent slot s
  | .blockComplete report => Sys2Proof.Machine.execBlockComplete report s
  | .blockFailed report => Sys2Proof.Machine.execBlockFailed report s
  | .writeTimerExpiry slot => Sys2Proof.Machine.execWriteTimerExpiry slot s
  | .ethernetLinkUp => Sys2Proof.Machine.execEthernetLinkUp s
  | .ethernetLinkDown => Sys2Proof.Machine.execEthernetLinkDown s
  | .offer env modes windowLimit => Sys2Proof.Machine.execOffer env modes windowLimit s
  | .ack env number rend offset => Sys2Proof.Machine.execAck env number rend offset s
  | .abort env number rend => Sys2Proof.Machine.execAbort env number rend s
  | .control env cell => Sys2Proof.Machine.execControl env cell s
  | .idle env => Sys2Proof.Machine.execIdle env s
  | .malformedTetherFrame env body => Sys2Proof.Machine.execMalformedTetherFrame env body s
  | .unexpectedTetherFrame env body => Sys2Proof.Machine.execUnexpectedTetherFrame env body s
  | .portTakesFrame => Sys2Proof.Machine.execPortTakesFrame s
  | .negotiationTimerExpiry => Sys2Proof.Machine.execNegotiationTimerExpiry s
  | .silenceTimerExpiry => Sys2Proof.Machine.execSilenceTimerExpiry s
  | .ackTimerExpiry => Sys2Proof.Machine.execAckTimerExpiry s

end Sys2Proof.Machine
end

