-- ==== Sys2Proof/Safety.lean ====
section
/-! DEFINITION. What statements about this machine are made of: how much a step may change (six relations between a
state and the state after it), and the invariants. -/

namespace Sys2Proof.Machine

/-! ## Commands that execute a queued cell (R168) -/

/-- The part with the oldest cell of a channel's queue taken out of it. -/
def taken (ch : Channel) (s : State) : State := updChan ch (fun k => { k with queue := k.queue.drop 1 }) s

/-- `c` is the oldest cell of the channel's queue and carries the code. -/
def Front (ch : Channel) (code : Word32) (c : Cell) (s : State) : Prop :=
  (chan s ch).queue.head? = some c ∧ c.code = code

/-- The same, with the part in RUN. -/
def FrontInRun (ch : Channel) (code : Word32) (c : Cell) (s : State) : Prop :=
  Front ch code c s ∧ s.control.opState = .run

/-- The commands that execute the oldest cell of a channel. -/
def executions (ch : Channel) : List Instr :=
  [.unknownCode ch, .idnt ch, .runm ch, .stby ch, .confCaptureFloor ch, .confSpaceWarningLevel ch,
   .confLossInterval ch, .confStalePeriod ch, .confDriveTimeout ch, .confConfidenceThreshold ch, .confDeadband ch,
   .confLossLimit ch, .confCardMode ch, .confTetherPower ch, .confTetherFrameType ch, .confStationAddress ch] ++
  [.confModePreferenceList ch, .confRenditionRank ch, .confNegotiationTimeout ch, .confSilenceTimeout ch,
   .confAcknowledgementTimeout ch, .loadGeometry ch, .loadProfiles ch, .loadRouting ch, .loadSites ch, .loadRecipe ch,
   .loadLensProfiles ch, .loadAliases ch, .prst ch, .trst ch, .echo ch, .armc ch, .dsrm ch, .fire ch, .ceas ch] ++
  [.ftgt ch, .srcs ch, .lprb ch, .slst ch, .shot ch, .blog ch, .hold ch, .unhd ch, .waiv ch, .prio ch, .dhld ch,
   .dunh ch, .pull ch, .rush ch, .skip ch, .mirr ch, .capn ch, .xtnt ch, .plrd ch, .cpwr ch, .evrd ch, .evmk ch]

/-! ## Settings (R173) -/

/-- The value in force of setting number `n` (R4, R5, R32, R38, R86, R94, R139, R144). -/
def settingInForce (n : Nat) (s : State) : List Nat :=
  let t := s.tether.settings
  match n with
  | 0 => [s.store.floor]
  | 1 => [s.store.warnLevel]
  | 2 => [s.intake.lossInterval]
  | 3 => [s.intake.stalePeriod]
  | 4 => [s.lens.driveTimeout]
  | 5 => [s.focus.threshold]
  | 6 => [s.focus.deadband]
  | 7 => [s.focus.lossLimit]
  | 8 => [if s.cardMode = .overflow then 1 else 0]
  | 9 => [if t.power then 1 else 0]
  | 10 => [t.frameType.toNat]
  | 11 => [t.station.toNat]
  | 12 => t.preferences.map modeCode
  | 13 => t.rank.map rendCode
  | 14 => [t.negotiation]
  | 15 => [t.silence]
  | 16 => [t.acknowledgement]
  | _ => []

/-- The values setting number `n` may take, by the ranges of R4, R5, R32, R38, R86, R94, R139 and R144. -/
def settingAllows (n : Nat) (values : List Nat) : Prop :=
  match n with
  | 0 => ∃ v, values = [v] ∧ v ≤ 1024
  | 1 => ∃ v, values = [v] ∧ v ≤ 4032
  | 2 => ∃ v, values = [v] ∧ 1 ≤ v ∧ v ≤ 255
  | 3 => ∃ v, values = [v] ∧ 1 ≤ v ∧ v ≤ 1000
  | 4 => ∃ v, values = [v] ∧ 10 ≤ v ∧ v ≤ 5000
  | 5 => ∃ v, values = [v] ∧ v ≤ 255
  | 6 => ∃ v, values = [v] ∧ v ≤ 255
  | 7 => ∃ v, values = [v] ∧ 1 ≤ v ∧ v ≤ 30
  | 8 => ∃ v, values = [v] ∧ v ≤ 1
  | 9 => ∃ v, values = [v] ∧ v ≤ 1
  | 10 => ∃ v, values = [v] ∧ 0x0600 ≤ v ∧ v ≤ 0xFFFF
  | 11 => ∃ v, values = [v] ∧ v < 2 ^ 48 ∧ v.testBit 40 = false
  | 12 => 1 ≤ values.length ∧ values.length ≤ 3 ∧ values.Nodup ∧ ∀ v, v ∈ values → 1 ≤ v ∧ v ≤ 3
  | 13 => values.length = 3 ∧ values.Nodup ∧ ∀ v, v ∈ values → v ≤ 2
  | 14 => ∃ v, values = [v] ∧ 1 ≤ v ∧ v ≤ 30
  | 15 => ∃ v, values = [v] ∧ 1 ≤ v ∧ v ≤ 60
  | 16 => ∃ v, values = [v] ∧ 50 ≤ v ∧ v ≤ 2000
  | _ => False

/-! ## How much changes -/

/-- `s` with what events and cells touch as `t` has it: the cells ready on the host link, the frames ready on the tether,
and each channel's latches and notice flag (R166, R179, R180). -/
def emittedFrom (s t : State) : State :=
  { s with
    control := { s.control with ready := t.control.ready }
    hostChan := { s.hostChan with latches := t.hostChan.latches, notice := t.hostChan.notice }
    deskChan := { s.deskChan with latches := t.deskChan.latches, notice := t.deskChan.notice }
    tether := { s.tether with ready := t.tether.ready } }

/-- `t` differs from `s` at most in what events and cells touch. -/
def Emits (s t : State) : Prop := t = emittedFrom s t

/-- `s` with what moves of duties, renditions and pages touch as `t` has it: the free list, the shot table and the space
condition, the development engine, and what events and cells touch. -/
def storedFrom (s t : State) : State :=
  { s with
    control := { s.control with ready := t.control.ready }
    hostChan := { s.hostChan with latches := t.hostChan.latches, notice := t.hostChan.notice }
    deskChan := { s.deskChan with latches := t.deskChan.latches, notice := t.deskChan.notice }
    store := { s.store with free := t.store.free, shots := t.store.shots, low := t.store.low }
    dev := t.dev
    tether := { s.tether with ready := t.tether.ready } }

/-- `t` differs from `s` at most in what `storedFrom` takes. -/
def Stores (s t : State) : Prop := t = storedFrom s t

/-- `s` with what capture control touches as `t` has it: capture control, the next shot number and what `storedFrom`
takes. -/
def capturedFrom (s t : State) : State :=
  { s with
    control := { s.control with ready := t.control.ready }
    hostChan := { s.hostChan with latches := t.hostChan.latches, notice := t.hostChan.notice }
    deskChan := { s.deskChan with latches := t.deskChan.latches, notice := t.deskChan.notice }
    store :=
      { s.store with
        free := t.store.free, shots := t.store.shots, low := t.store.low, nextNumber := t.store.nextNumber }
    capture := t.capture
    dev := t.dev
    tether := { s.tether with ready := t.tether.ready } }

/-- `t` differs from `s` at most in what `capturedFrom` takes. -/
def Captures (s t : State) : Prop := t = capturedFrom s t

/-- `s` with what the recording engine touches as `t` has it: the two card slots and what `storedFrom` takes. -/
def recordedFrom (s t : State) : State :=
  { s with
    control := { s.control with ready := t.control.ready }
    hostChan := { s.hostChan with latches := t.hostChan.latches, notice := t.hostChan.notice }
    deskChan := { s.deskChan with latches := t.deskChan.latches, notice := t.deskChan.notice }
    store := { s.store with free := t.store.free, shots := t.store.shots, low := t.store.low }
    dev := t.dev
    cardA := t.cardA
    cardB := t.cardB
    tether := { s.tether with ready := t.tether.ready } }

/-- `t` differs from `s` at most in what `recordedFrom` takes. -/
def Records (s t : State) : Prop := t = recordedFrom s t

/-- `s` with what selection touches as `t` has it: the active transfer and what `recordedFrom` takes. -/
def settledFrom (s t : State) : State :=
  { s with
    control := { s.control with ready := t.control.ready }
    hostChan := { s.hostChan with latches := t.hostChan.latches, notice := t.hostChan.notice }
    deskChan := { s.deskChan with latches := t.deskChan.latches, notice := t.deskChan.notice }
    store := { s.store with free := t.store.free, shots := t.store.shots, low := t.store.low }
    dev := t.dev
    cardA := t.cardA
    cardB := t.cardB
    tether := { s.tether with transfer := t.tether.transfer, ready := t.tether.ready } }

/-- `t` differs from `s` at most in what `settledFrom` takes. -/
def Settles (s t : State) : Prop := t = settledFrom s t

/-- `s` with what a release gate found open and selection touch as `t` has it: what `capturedFrom` takes and what
`settledFrom` takes. -/
def finishedFrom (s t : State) : State :=
  { s with
    control := { s.control with ready := t.control.ready }
    hostChan := { s.hostChan with latches := t.hostChan.latches, notice := t.hostChan.notice }
    deskChan := { s.deskChan with latches := t.deskChan.latches, notice := t.deskChan.notice }
    store :=
      { s.store with
        free := t.store.free, shots := t.store.shots, low := t.store.low, nextNumber := t.store.nextNumber }
    capture := t.capture
    dev := t.dev
    cardA := t.cardA
    cardB := t.cardB
    tether := { s.tether with transfer := t.tether.transfer, ready := t.tether.ready } }

/-- `t` differs from `s` at most in what `finishedFrom` takes. -/
def Finishes (s t : State) : Prop := t = finishedFrom s t

/-! ## Sizes (R67, R128, R137, R167, R174, R175) -/

/-- R132: a write is active exactly in WRITING. R137, R134: a placement log of a slot that may start a write has two free
entries; during attempt 1 of a write the log holds at most 30 records, during attempt 2 at most 31, and otherwise at most
32. R128: at most 64 extents. -/
def CardBounded (c : Card) : Prop :=
  (c.write.isSome = true ↔ c.state = .writing) ∧ (c.state = .ready → c.log.length ≤ stallLogRecords) ∧
    c.extents.length ≤ maxExtents ∧
    match c.write with
    | none => c.log.length ≤ maxLogRecords
    | some w =>
      (w.attempt = 1 ∧ c.log.length ≤ stallLogRecords) ∨ (w.attempt = 2 ∧ c.log.length ≤ stallLogRecords + 1)

/-- R174, R175: a load in progress has a declared length of at most 65,536 and still lacks bytes; without one the buffer
holds at most 65,536 bytes. -/
def LoadBounded (c : Control) : Prop :=
  match c.load with
  | none => c.loadBuffer.length ≤ loadBufferBytes
  | some l => l.length ≤ loadBufferBytes ∧ c.loadBuffer.length < l.length

/-- The queues, buffers and logs keep within the sizes the manual gives them. -/
def Bounded (s : State) : Prop :=
  s.hostChan.queue.length ≤ inputQueueCells ∧ s.deskChan.queue.length ≤ inputQueueCells ∧ LoadBounded s.control ∧
    s.capture.log.length ≤ burstLogRecords ∧ CardBounded s.cardA ∧ CardBounded s.cardB

/-! ## Capture and operating state (R39, R52, R55, R171) -/

/-- STANDBY means DISARMED; a profile slot is armed exactly when capture is not DISARMED; and in DISARMED the fire latch
is clear and the ring empty. -/
def CaptureLegal (s : State) : Prop :=
  (s.control.opState = .standby → s.capture.state = .disarmed) ∧
    (s.capture.state = .disarmed ↔ s.capture.armed = none) ∧
    (s.capture.state = .disarmed →
      s.capture.fireLatch = false ∧ s.capture.ring = [] ∧ s.capture.ringExposing = none)

/-! ## Tether (R146, R148, R149, R152) -/

/-- There is a desk address exactly in BOUND; a transfer and a running silence timer stand only in BOUND, and a running
negotiation timer only in LINKED. -/
def TetherLegal (t : Tether) : Prop :=
  (t.desk.isSome = true ↔ t.link = .bound) ∧ (t.transfer.isSome = true → t.link = .bound) ∧
    (t.silenceTimer.isSome = true → t.link = .bound) ∧ (t.negTimer.isSome = true → t.link = .linked)

/-! ## Lens (R76, R79, R80, R82) -/

/-- What the outstanding request says of the state: the query in IDENTIFIED, offers in NEGOTIATING before ACCEPT, setup
requests in NEGOTIATING under the contract, an ABORT in DRIVING. -/
def RequestLegal (l : Lens) : Prop :=
  match l.outstanding with
  | none => True
  | some .capabilityQuery => l.state = .identified
  | some (.offer _ _ _) => l.state = .negotiating ∧ l.contract = none
  | some (.paramRead _) => l.state = .negotiating ∧ l.contract.isSome = true
  | some (.paramWrite _ _) => l.state = .negotiating ∧ l.contract.isSome = true
  | some .abort => l.state = .driving
  | some (.drive _ _) => False

/-- R79, R82, R86, R88: a contract is held in READY and DRIVING and otherwise only in NEGOTIATING; a drive is in flight
exactly in DRIVING; a request is queued and the drive timer runs only there; the wait timer runs only in NEGOTIATING
before ACCEPT, with no request outstanding, the settle timer only in PROBING, and the re-probe timer only in FAULT. -/
def LensLegal (l : Lens) : Prop :=
  (l.state = .ready ∨ l.state = .driving → l.contract.isSome = true) ∧
    (l.contract.isSome = true → l.state = .ready ∨ l.state = .driving ∨ l.state = .negotiating) ∧
    (l.inFlight.isSome = true ↔ l.state = .driving) ∧ (l.queued.isSome = true → l.state = .driving) ∧
    (l.waitTimer.isSome = true → l.state = .negotiating ∧ l.contract = none ∧ l.outstanding = none) ∧
    (l.settleTimer.isSome = true → l.state = .probing) ∧ (l.driveTimer.isSome = true → l.state = .driving) ∧
    (l.reprobeTimer.isSome = true → l.state = .fault) ∧ RequestLegal l

/-- R70: and the controller is ABSENT while the lens present line is negated. -/
def LensSound (s : State) : Prop := LensLegal s.lens ∧ (s.pins.lensPresent = false → s.lens.state = .absent)

end Sys2Proof.Machine
end

