-- ==== Sys2Proof/Certificates/Slice0/Obligations.lean ====
section
/-! DEFINITION. The statements for the provers, by chapter of the manual. A statement gives a command's result as an
equation `exec … = .next …`, so that it also says the command completes and what it leaves unchanged; `taken`, `Front`
and `FrontInRun` are of Safety.lean. -/

open Sys2Proof Sys2Proof.Machine

/-! ## Step, idle tick, reset -/

/-- A step takes the command at the front of the queue and runs it on the part with the queue's rest. -/
def Obligations.StepRunsFrontCommand : Prop :=
  ∀ (c : Instr) (rest : List Instr) (s : State), s.pending = c :: rest → step s = exec c { s with pending := rest }

/-- With no command waiting one microsecond passes, the host link takes the cell ready longest, and the store, capture
control, the focus engine, the development engine, both channels and the lines stay. What is put up is the row of each
timer that has run out, of each OWED DESK duty whose expiry time the time base has reached, of the part reset where it
is awaited and the answer of PRST has left or is no longer ready, and of the oldest cell of each channel, in this
order, and nothing else. What the host link took last are the bytes of that cell. After its largest value the time
base is 0. The model's choice (notes/assumptions/1.md, 4.md, 19.md, 47.md). -/
def Obligations.IdleStepPassesOneMicrosecond : Prop :=
  ∀ s : State, s.pending = [] →
    ∃ t, step s = .next t ∧
      t.control.timeBase = (s.control.timeBase + 1) % 2 ^ 64 ∧
      t.control.ready = (if s.pins.hostUp then s.control.ready.drop 1 else s.control.ready) ∧
      t.control.lastTaken =
        (match s.pins.hostUp, s.control.ready with
         | true, c :: _ => some (cellBytes c)
         | _, _ => s.control.lastTaken) ∧
      t.control.opState = s.control.opState ∧ t.control.load = s.control.load ∧
      t.control.loadBuffer = s.control.loadBuffer ∧
      (let due (tm : Timer) (c : Instr) : List Instr := if tm = some 0 ∨ tm = some 1 then [c] else []
       let expiries (x : Shot) (r : Rendition) : List Instr :=
         match dutyOf x .desk r with
         | none => []
         | some y =>
           match y.state, y.expiry with
           | .owed, some e => if e ≤ t.control.timeBase then [.dutyExpiry (x.number.getD 0) r] else []
           | _, _ => []
       let answered (c : OutCell) : Bool := c.code == codePRST && c.status == .done
       let resets : Bool :=
         s.control.resetAwaited &&
           (s.pins.hostUp && s.control.ready.head?.any answered || !t.control.ready.any answered)
       let queued (ch : Channel) : List Instr := ((chan s ch).queue.head?.map (rowOf ch)).toList
       let slotTimers (k : CardSlot) : List Instr :=
         due (card s k).mountTimer (.mountTimeout k) ++
           due ((card s k).write.bind fun w => w.timer) (.writeTimerExpiry k)
       t.pending =
         (([0, 1, 2, 3] : List (Fin 4)).flatMap fun l => due (laneAt s l.val).timer (.lossTimerExpiry l)) ++
           due (s.intake.frame.bind fun f => f.staleTimer) .staleTimerExpiry ++
           due s.intake.patternTimer .patternTick ++ due s.lens.answerTimer .answerTimeout ++
           due s.lens.waitTimer .waitTimerExpiry ++ due s.lens.driveTimer .driveTimerExpiry ++
           due s.lens.reprobeTimer .reprobeTimerExpiry ++ slotTimers .a ++ slotTimers .b ++
           due s.tether.negTimer .negotiationTimerExpiry ++ due s.tether.silenceTimer .silenceTimerExpiry ++
           due (s.tether.transfer.bind fun x => x.timer) .ackTimerExpiry ++
           (s.store.shots.flatMap fun x => [Rendition.raw, .dev, .prv].flatMap (expiries x)) ++
           (if resets then [.partReset] else []) ++ queued .host ++ queued .desk) ∧
      t.store = s.store ∧ t.capture = s.capture ∧ t.focus = s.focus ∧ t.dev = s.dev ∧ t.hostChan = s.hostChan ∧
      t.deskChan = s.deskChan ∧ t.pins = s.pins ∧ t.cardMode = s.cardMode ∧ t.lens = tickLens 1 s.lens ∧
      t.intake = tickIntake 1 s.intake ∧ t.cardA = tickCard 1 s.cardA ∧ t.cardB = tickCard 1 s.cardB ∧
      t.tether = tickTether 1 s.tether

/-- The values the manual gives the blocks at reset, and with them every invariant stated below holds. The levels of
the lines: the model's choice (notes/assumptions/8.md). -/
def Obligations.ResetLeavesTheManualsValues : Prop :=
  State.reset.control.opState = .standby ∧ State.reset.control.timeBase = 0 ∧ State.reset.control.load = none ∧
    State.reset.control.loadBuffer = [] ∧
    (∀ ch, (chan State.reset ch).queue = [] ∧ (chan State.reset ch).latches = 0 ∧ (chan State.reset ch).mask = 0 ∧
      (chan State.reset ch).notice = false) ∧
    State.reset.store.shots = [] ∧ State.reset.store.free = List.range' 64 4032 ∧ State.reset.store.routing = none ∧
    State.reset.store.nextNumber = 1 ∧ State.reset.store.floor = 256 ∧ State.reset.store.warnLevel = 512 ∧
    State.reset.store.low = false ∧
    State.reset.intake.geometry = none ∧ State.reset.intake.source = .sensor ∧ State.reset.intake.frame = none ∧
    State.reset.intake.lossInterval = 25 ∧ State.reset.intake.stalePeriod = 80 ∧ State.reset.intake.nextLive = 1 ∧
    State.reset.intake.lanes = List.replicate 4 { locked := false, usable := false, timer := none } ∧
    State.reset.capture.profiles = List.replicate 8 none ∧ State.reset.capture.state = .disarmed ∧
    State.reset.capture.armed = none ∧ State.reset.capture.fireLatch = false ∧ State.reset.capture.log = [] ∧
    State.reset.capture.nextBurst = 1 ∧
    State.reset.lens.state = .absent ∧ State.reset.lens.profiles = [] ∧ State.reset.lens.aliases = [] ∧
    State.reset.lens.driveTimeout = 500 ∧
    State.reset.focus.sites = [] ∧ State.reset.focus.state = .off ∧ State.reset.focus.targetSource = .default ∧
    State.reset.focus.threshold = 64 ∧ State.reset.focus.deadband = 8 ∧ State.reset.focus.lossLimit = 6 ∧
    State.reset.dev.state = .idle ∧ State.reset.dev.queue = [] ∧
    (State.reset.dev.bank.map fun b => b.generation) = [0, 0, 0, 0] ∧
    State.reset.cardMode = .independent ∧
    (∀ k, (card State.reset k).power = true ∧ (card State.reset k).extents = [] ∧ (card State.reset k).log = [] ∧
      (card State.reset k).write = none ∧ (card State.reset k).capacity = none) ∧
    State.reset.tether.settings.preferences = [.windowed, .basic] ∧
    State.reset.tether.settings.rank = [.prv, .dev, .raw] ∧ State.reset.tether.settings.frameType = 0x9B12 ∧
    State.reset.tether.settings.negotiation = 3 ∧ State.reset.tether.settings.silence = 5 ∧
    State.reset.tether.settings.acknowledgement = 250 ∧ State.reset.tether.transfer = none ∧
    Bounded State.reset ∧ CaptureLegal State.reset ∧ TetherLegal State.reset.tether ∧ LensSound State.reset

/-- POWER_ON, and PART_RESET when a PRST has been accepted, return every block to its reset state: with the lens
present line asserted the lens is probed, a slot whose card-detect line is asserted mounts, and with the Ethernet link
up the tether engine is LINKED; no event latches and no cell is ready. PRST answers DONE and makes the part reset
awaited. When ready cells leave and a part reset begins: the model's choice (notes/assumptions/19.md). -/
def Obligations.PowerOnAndPartResetReturnEveryBlock : Prop :=
  (∀ (pins : Pins) (s : State), ∃ t, exec (.powerOn pins) s = .next t ∧
      (s.control.resetAwaited = true → s.pins = pins → exec .partReset s = .next t) ∧
      t.pending = s.pending ∧ t.pins = pins ∧ t.control = Control.reset ∧ t.hostChan = Chan.reset ∧
      t.deskChan = Chan.reset ∧ t.store = Store.reset ∧ t.intake = Intake.reset ∧ t.capture = Capture.reset ∧
      t.focus = Focus.reset ∧ t.dev = DevEngine.reset ∧ t.cardMode = .independent ∧
      t.lens =
        (if pins.lensPresent then
           { Lens.reset with
             state := .probing, select := 3, settleTimer := some 20,
             counters := { Lens.reset.counters with probes := 1 } }
         else Lens.reset) ∧
      t.cardA =
        (if pins.detectA then { Card.reset with state := .mounting, mountTimer := some 1000000 } else Card.reset) ∧
      t.cardB =
        (if pins.detectB then { Card.reset with state := .mounting, mountTimer := some 1000000 } else Card.reset) ∧
      t.tether =
        (if pins.etherUp then { Tether.reset with link := .linked, negTimer := some 3000000 } else Tether.reset)) ∧
    (∀ s : State, s.control.resetAwaited = false → exec .partReset s = .next s) ∧
    ∀ (c : Cell) (s : State), FrontInRun .host codePRST c s →
      exec (.prst .host) s =
        .next (answerBare .host c .done
          { taken .host s with control := { s.control with resetAwaited := true } })

/-! ## Cells, answers, events (09) -/

/-- R167: what becomes of a cell that reaches a channel, by its kind, its argument length and the queue; and of a
malformed host unit. -/
def Obligations.ArrivingCellIsQueuedAnsweredOrCounted : Prop :=
  (∀ (ch : Channel) (c : Cell) (s : State), canNotify s ch = true →
    (c.kind = 1 → c.argLen.toNat ≤ 48 → (chan s ch).queue.length < 8 →
      exec (.commandCell ch c) s = .next (updChan ch (fun k => { k with queue := k.queue ++ [c] }) s)) ∧
    (c.kind = 1 → 48 < c.argLen.toNat →
      exec (.commandCell ch c) s =
        .next (answerBare ch c .badarg (updCounters ch (fun k => { k with malformed := satInc k.malformed }) s))) ∧
    (c.kind = 1 → c.argLen.toNat ≤ 48 → 8 ≤ (chan s ch).queue.length →
      exec (.commandCell ch c) s =
        .next (answerBare ch c .busy (updCounters ch (fun k => { k with busy := satInc k.busy }) s))) ∧
    (c.kind = 2 ∨ c.kind = 3 →
      exec (.commandCell ch c) s = .next (updCounters ch (fun k => { k with stray := satInc k.stray }) s)) ∧
    (c.kind ≠ 1 → c.kind ≠ 2 → c.kind ≠ 3 →
      exec (.commandCell ch c) s =
        .next (updCounters ch (fun k => { k with malformed := satInc k.malformed }) s))) ∧
    ∀ s : State, s.pins.hostUp = true →
      exec .malformedHostUnit s =
        .next (updCounters .host (fun k => { k with malformed := satInc k.malformed }) s)

/-- R166, R150, R183: where a ready cell goes, by channel and link; every answer's argument bytes are cut into cells of at
most 48 that run on in order, every one but the last with the continued mark; and a cell is 56 bytes: kind, tag, code,
status, argument length and continued mark, arguments, zeros, numbers least significant byte first. -/
def Obligations.AnswersRunOnAcrossCells : Prop :=
  (∀ (cells : List OutCell) (s : State),
    sendCells .host cells s =
      if s.pins.hostUp then { s with control := { s.control with ready := s.control.ready ++ cells } } else s) ∧
  (∀ (cells : List OutCell) (d : Addr48) (s : State), s.tether.link = .bound → s.tether.desk = some d →
    sendCells .desk cells s =
      { s with
        tether := { s.tether with
          ready := s.tether.ready ++ cells.map fun c =>
            { dst := d, src := s.tether.settings.station, frameType := s.tether.settings.frameType,
              body := .control c } } }) ∧
  (∀ (cells : List OutCell) (s : State), s.tether.link ≠ .bound → sendCells .desk cells s = s) ∧
  (∀ (tag : Byte) (code : Word32) (st : Status) (args : Payload), ∃ (front : List (List Byte)) (last : List Byte),
    front.flatten ++ last = payloadBytes args ∧ (∀ k ∈ front, k.length = 48) ∧ last.length ≤ 48 ∧
      answerCells tag code st args =
        (front.map fun k =>
          { kind := .answer, tag := tag, code := code, status := st, continued := true, args := k }) ++
        [{ kind := .answer, tag := tag, code := code, status := st, continued := false, args := last }]) ∧
  (∀ c : OutCell, c.args.length ≤ 48 →
    cellBytes c =
      [match c.kind with | .answer => 2 | .notice => 3, c.tag] ++ (le 4 c.code.toNat).reverse ++
        [BitVec.ofNat 8 (statusCode c.status), BitVec.ofNat 8 (c.args.length + if c.continued then 128 else 0)] ++
        c.args ++ List.replicate (48 - c.args.length) 0 ∧
      (cellBytes c).length = 56) ∧
  ([Status.done, .busy, .unknown, .denied, .badarg, .state, .gone, .full, .badtable].map statusCode =
    [0, 1, 2, 3, 4, 5, 6, 7, 8]) ∧
  ∀ n v, (le n v).length = n ∧ readLe (le n v) = v % 256 ^ n

/-- R179, R180: an event offered to a channel: masked it does nothing; unmasked its latch is set; already latched it
changes nothing; a new latch with the notice flag clear makes a NOTICE of the whole latched set ready where the
channel may send one, and with the flag set it sends nothing. The other channel's latches stay. DESK_REQUEST and
HOSTLINK_UP are offered to the host channel alone, every other event to both. R150, R178: where a channel can send
again, a channel with a latch set and the notice flag clear makes such a NOTICE, and any other stays as it is. -/
def Obligations.EventsLatchAndNotify : Prop :=
  (∀ (e : Event) (s : State),
    (e = .deskRequest ∨ e = .hostlinkUp → raise e s = offerEvent e .host s) ∧
    (e ≠ .deskRequest → e ≠ .hostlinkUp → raise e s = offerEvent e .desk (offerEvent e .host s))) ∧
  ∀ (e : Event) (ch : Channel) (s : State), latchBit e < 56 →
    (unmasked (chan s ch) e = false → offerEvent e ch s = s) ∧
    (unmasked (chan s ch) e = true → latched (chan (offerEvent e ch s) ch) e = true) ∧
    (latched (chan s ch) e = true → offerEvent e ch s = s) ∧
    (unmasked (chan s ch) e = true → latched (chan s ch) e = false → (chan s ch).notice = false →
      canNotify s ch = true →
      (chan (offerEvent e ch s) ch).notice = true ∧
        offerEvent e ch s =
          sendCells ch
            [{ kind := .notice, tag := 0, code := codeEVRD, status := .done, continued := false,
               args := latchedBytes (chan (offerEvent e ch s) ch).latches }]
            (updChan ch
              (fun c => { c with latches := (chan (offerEvent e ch s) ch).latches, notice := true }) s)) ∧
    ((chan s ch).notice = true ∨ canNotify s ch = false → offerEvent e ch s = updChan ch (setLatch e) s) ∧
    (∀ ch', ch' ≠ ch → chan (offerEvent e ch s) ch' = chan s ch') ∧
    ((chan s ch).latches = 0 ∨ (chan s ch).notice = true ∨ canNotify s ch = false → notifyIfLatched ch s = s) ∧
    ((chan s ch).latches ≠ 0 → (chan s ch).notice = false → canNotify s ch = true →
      notifyIfLatched ch s =
        sendCells ch
          [{ kind := .notice, tag := 0, code := codeEVRD, status := .done, continued := false,
             args := latchedBytes (chan s ch).latches }]
          (updChan ch (fun c => { c with notice := true }) s))

/-- R181, whole: EVRD is answered DONE with the channel's latched set, which lists each set latch; every latch and the
notice flag of the channel are cleared, the other channel stays, an empty set is answered so, and a latch set afterwards
makes a new NOTICE. -/
def Obligations.EvrdReadsAndClearsLatches : Prop :=
  ∀ (ch : Channel) (c : Cell) (s : State), Front ch codeEVRD c s →
    ∃ t, exec (.evrd ch) s = .next t ∧
      t = answer ch c .done (.bytes (latchedBytes (chan s ch).latches))
        (updChan ch (fun k => { k with latches := 0, notice := false }) (taken ch s)) ∧
      (chan t ch).latches = 0 ∧ (chan t ch).notice = false ∧
      (∀ ch', ch' ≠ ch → chan t ch' = chan s ch') ∧
      readLe (latchedBytes (chan s ch).latches) = (chan s ch).latches.toNat ∧
      ((chan s ch).latches = 0 → latchedBytes (chan s ch).latches = [0, 0, 0, 0, 0, 0, 0]) ∧
      ∀ e, latchBit e < 56 → unmasked (chan s ch) e = true → canNotify s ch = true →
        (chan (offerEvent e ch t) ch).notice = true ∧ latched (chan (offerEvent e ch t) ch) e = true

/-- R182, whole: EVMK with no argument answers the mask in force and changes nothing; a mask that names an event not
offered to the channel, or an entry beyond the 27 events, is BADARG and changes nothing; any other replaces the channel's
mask and is answered DONE with it. No latch and no mask of the other channel changes, and the new mask is the one that
says whether an event raised afterwards is latched. The mask is carried in 4 bytes. -/
def Obligations.EvmkReplacesTheMask : Prop :=
  ∀ (ch : Channel) (c : Cell) (s : State), Front ch codeEVMK c s →
    (c.args.length = 48 →
      (c.argLen = 0 → c.fields = []) ∧ (c.argLen = 4 → c.fields = [readLe (c.args.take 4)])) ∧
    (c.fields = [] →
      exec (.evmk ch) s =
        .next (answer ch c .done (.bytes (le 4 (chan s ch).mask.toNat)) (taken ch s))) ∧
    ∀ m, c.fields = [m] →
      ((ch = .host ∧ 2 ^ 27 ≤ m) ∨ (ch = .desk ∧ 2 ^ 25 ≤ m) →
        exec (.evmk ch) s = .next (answerBare ch c .badarg (taken ch s))) ∧
      ((ch = .host ∧ m < 2 ^ 27) ∨ (ch = .desk ∧ m < 2 ^ 25) →
        ∃ t, exec (.evmk ch) s = .next t ∧
          t = answer ch c .done (.bytes (le 4 m))
            (updChan ch (fun k => { k with mask := BitVec.ofNat 32 m }) (taken ch s)) ∧
          (∀ ch', (chan t ch').latches = (chan s ch').latches) ∧
          (∀ ch', ch' ≠ ch → chan t ch' = chan s ch') ∧
          ∀ e, unmasked (chan t ch) e = m.testBit (eventCode e))

/-- R168, R169: the checks before the owner's, for every command that executes a cell: an unknown code, UNKNOWN_CODE, is
answered UNKNOWN, a code the channel may not use DENIED, both counted, and in STANDBY a permitted code that STANDBY does
not accept STATE; in each case nothing else changes but that the cell leaves the queue. -/
def Obligations.ChannelChecksRefuseInOrder : Prop :=
  ∀ (ch : Channel) (c : Cell) (s : State), (chan s ch).queue.head? = some c →
    (permissionOf c.code = none →
      exec (rowOf ch c) s =
        .next (answerBare ch c .unknown
          (updCounters ch (fun k => { k with unknown := satInc k.unknown }) (taken ch s))) ∧
      exec (.unknownCode ch) s = exec (rowOf ch c) s) ∧
    ∀ p, permissionOf c.code = some p →
      (permittedOn p ch = false →
        exec (rowOf ch c) s =
          .next (answerBare ch c .denied
            (updCounters ch (fun k => { k with denied := satInc k.denied }) (taken ch s)))) ∧
      (permittedOn p ch = true → s.control.opState = .standby → p.standby = false →
        exec (rowOf ch c) s = .next (answerBare ch c .state (taken ch s)))

/-- R170 to R172: IDNT answers the part's identity, P640 and level 2 among it, and changes nothing else; RUNM in
STANDBY enters RUN with the tables present and is STATE without one of them, in RUN it changes nothing; STBY disarms
capture as DSRM does, an open burst ending with reason DISARMED and BURST_END, the ring discarded and the focus engine
told, enters STANDBY, stops the lane monitors and is answered DONE. The layout of the answer, and a frame still open
at RUNM: the model's choice (notes/assumptions/6.md, 39.md). -/
def Obligations.IdentityAndOperatingState : Prop :=
  (∀ (ch : Channel) (c : Cell) (s : State), Front ch codeIDNT c s →
    ∃ r, exec (.idnt ch) s = .next (answer ch c .done (.identity r) (taken ch s)) ∧
      r.part = 0x50363430 ∧ (identityBytes r).take 4 = [0x50, 0x36, 0x34, 0x30] ∧ r.level = 2 ∧ r.channel = ch ∧
      r.opState = s.control.opState ∧ r.timeBase = s.control.timeBase ∧
      (r.geometry = true ↔ s.intake.geometry ≠ none) ∧ (r.routing = true ↔ s.store.routing ≠ none) ∧
      r.sites = s.focus.sites.length ∧ r.lensProfiles = s.lens.profiles.length ∧
      r.aliases = s.lens.aliases.length ∧ r.profiles = (s.capture.profiles.filter fun p => p.isSome).length ∧
      r.generations = s.dev.bank.map (fun b => b.generation) ∧ (s.control.load = none → r.load = none) ∧
      (∀ l, s.control.load = some l → r.load = some (l, s.control.loadBuffer.length)) ∧
      r.mask = (chan s ch).mask ∧ r.hostCounters = s.hostChan.counters ∧
      r.deskCounters = s.deskChan.counters) ∧
  (∀ (c : Cell) (s : State), Front .host codeRUNM c s →
    (s.control.opState = .run → exec (.runm .host) s = .next (answerBare .host c .done (taken .host s))) ∧
    (s.control.opState = .standby →
      (s.intake.geometry = none ∨ (∀ p ∈ s.capture.profiles, p = none) ∨ s.store.routing = none →
        exec (.runm .host) s = .next (answerBare .host c .state (taken .host s))) ∧
      (s.intake.geometry ≠ none → (∃ p ∈ s.capture.profiles, p ≠ none) → s.store.routing ≠ none →
        exec (.runm .host) s =
          .next (answerBare .host c .done
            { taken .host s with
              control := { s.control with opState := .run }
              intake :=
                if s.intake.source = .sensor then
                  { s.intake with
                    lanes := s.intake.lanes.map fun l =>
                      { l with timer := if l.locked then some (s.intake.lossInterval * 4) else none } }
                else s.intake })))) ∧
  ∀ (c : Cell) (s : State), FrontInRun .host codeSTBY c s →
    let stopped (u : State) : State :=
      { u with
        control := { u.control with opState := .standby }
        intake := { u.intake with lanes := u.intake.lanes.map fun l => { l with timer := none } } }
    let ended : State :=
      if s.capture.state = .firing ∨ s.capture.state = .stalled then
        raise .burstEnd
          { taken .host s with
            capture := { s.capture with log := updLast (fun b => { b with ended := some .disarmed }) s.capture.log } }
      else taken .host s
    let d := discardRing ended
    (s.capture.state = .disarmed → exec (.stby .host) s = .next (answerBare .host c .done (stopped (taken .host s)))) ∧
    (s.capture.state ≠ .disarmed →
      exec (.stby .host) s =
        .next (answerBare .host c .done (stopped
          { d with
            capture := { d.capture with fireLatch := false, armed := none, state := .disarmed }
            focus := reportToFocus none false s.focus }))) ∧
    ∃ t, exec (.stby .host) s = .next t ∧
      t.control.opState = .standby ∧
      t.intake = { s.intake with lanes := s.intake.lanes.map fun l => { l with timer := none } } ∧
      (s.capture.state = .disarmed → t.capture = s.capture) ∧
      (s.capture.state ≠ .disarmed →
        t.capture.state = .disarmed ∧ t.capture.armed = none ∧ t.capture.fireLatch = false ∧ t.capture.ring = [] ∧
          t.capture.ringExposing = none) ∧
      t.lens = s.lens ∧ t.cardA = s.cardA ∧ t.cardB = s.cardB ∧ t.cardMode = s.cardMode ∧ t.pins = s.pins ∧
      t.tether = { s.tether with ready := t.tether.ready }

/-- R178, R45: at a change to down the host channel's queue, its notice flag, its ready cells, the load in progress
and the load buffer are emptied and a SENDING live frame is lost, while latches, mask and counters stay; at a change
to up HOSTLINK_UP is raised on the host channel, where it latches if unmasked, one NOTICE of the latched set follows
where a latch is set, and a WAITING live frame becomes SENDING. R177: with a part reset awaited, the reset begins at
the link loss, and every block returns to its reset state as at POWER_ON with the lines as they stand. That the reset
begins there, and that a level already reported changes nothing: the model's choice (notes/assumptions/19.md,
3.md). -/
def Obligations.HostLinkLossAndReturn : Prop :=
  (∀ s : State, s.pins.hostUp = true → s.control.resetAwaited = false →
    ∃ t, exec .hostLinkDown s = .next t ∧ t.pins = { s.pins with hostUp := false } ∧
      t.hostChan = { s.hostChan with queue := [], notice := false } ∧
      t.control = { s.control with load := none, loadBuffer := [], ready := [] } ∧
      t.intake =
        (if s.intake.buffer0.state = .sending then { s.intake with buffer0 := LiveBuffer.reset }
         else if s.intake.buffer1.state = .sending then { s.intake with buffer1 := LiveBuffer.reset }
         else s.intake) ∧
      t.deskChan = s.deskChan ∧ t.store = s.store ∧ t.capture = s.capture ∧ t.lens = s.lens ∧ t.focus = s.focus ∧
      t.dev = s.dev ∧ t.cardA = s.cardA ∧ t.cardB = s.cardB ∧ t.tether = s.tether) ∧
  (∀ s : State, s.pins.hostUp = false →
    ∃ t, exec .hostLinkUp s = .next t ∧ t.pins = { s.pins with hostUp := true } ∧
      t =
        { notifyIfLatched .host (raise .hostlinkUp { s with pins := { s.pins with hostUp := true } }) with
          intake := t.intake } ∧
      (unmasked s.hostChan .hostlinkUp = true → latched t.hostChan .hostlinkUp = true) ∧
      (t.hostChan.latches ≠ 0 → t.hostChan.notice = true) ∧
      (s.hostChan.notice = false →
        t.control.ready =
          s.control.ready ++
            (if t.hostChan.latches = 0 then []
             else
               [{ kind := .notice, tag := 0, code := codeEVRD, status := .done, continued := false,
                  args := latchedBytes t.hostChan.latches }])) ∧
      t.intake =
        (if s.intake.buffer0.state = .waiting then
           { s.intake with buffer0 := { s.intake.buffer0 with state := .sending } }
         else if s.intake.buffer1.state = .waiting then
           { s.intake with buffer1 := { s.intake.buffer1 with state := .sending } }
         else s.intake) ∧
      t.hostChan.queue = s.hostChan.queue ∧ t.deskChan = s.deskChan ∧ t.store = s.store ∧ t.capture = s.capture ∧
      t.lens = s.lens ∧ t.focus = s.focus ∧ t.dev = s.dev ∧ t.cardA = s.cardA ∧ t.cardB = s.cardB ∧
      t.tether = s.tether) ∧
  (∀ s : State, s.pins.hostUp = true → s.control.resetAwaited = true →
    exec .hostLinkDown s = exec (.powerOn { s.pins with hostUp := false }) s) ∧
  ∀ s : State, (s.pins.hostUp = false → exec .hostLinkDown s = .next s) ∧
    (s.pins.hostUp = true → exec .hostLinkUp s = .next s)

/-! ## Settings (R173) -/

/-- R173: a CONF cell that names a setting and a value in its range sets it, is answered DONE with the value now in
force, and leaves every other setting. Without a value it answers the value in force; a value outside the range, and a
setting not in the table, are BADARG; in these cases nothing changes but that the cell leaves the queue. The numbers
of the settings: the model's choice (notes/assumptions/5.md). -/
def Obligations.ConfSetsReadsAndRefuses : Prop :=
  ∀ (n : Nat) (c : Cell) (s : State), n < 17 → Front .host codeCONF c s →
    (∀ values, c.fields = n :: values → settingAllows n values →
      ∃ t, exec (confRow .host [n]) s = .next (answer .host c .done (.setting n values) t) ∧
        settingInForce n t = values ∧ ∀ m, m < 17 → m ≠ n → settingInForce m t = settingInForce m s) ∧
    (c.fields = [n] →
      exec (confRow .host [n]) s = .next (answer .host c .done (.setting n (settingInForce n s)) (taken .host s))) ∧
    (∀ values, c.fields = n :: values → values ≠ [] → ¬ settingAllows n values →
      exec (confRow .host [n]) s = .next (answerBare .host c .badarg (taken .host s))) ∧
    (c.fields = [] ∨ (∃ k rest, c.fields = k :: rest ∧ 17 ≤ k) →
      exec (confRow .host [n]) s = .next (answerBare .host c .badarg (taken .host s)))

/-- R32, R38, R94, R144: the settings that only take effect later change their own field and nothing else. Setting 12
is the mode preference list, by the modes' codes. The numbers of the settings: the model's choice
(notes/assumptions/5.md). -/
def Obligations.ConfLaterSettingsChangeOneField : Prop :=
  ∀ (v : Nat) (c : Cell) (s : State), Front .host codeCONF c s →
    let set (n : Nat) (t : State) :=
      Host.Outcome.next (φ := Fault) (ρ := Refusal) (answer .host c .done (.setting n [v]) t)
    let s' := taken .host s
    let settings := s.tether.settings
    (c.fields = [2, v] → 1 ≤ v → v ≤ 255 →
      exec (.confLossInterval .host) s = set 2 { s' with intake := { s.intake with lossInterval := v } }) ∧
    (c.fields = [3, v] → 1 ≤ v → v ≤ 1000 →
      exec (.confStalePeriod .host) s = set 3 { s' with intake := { s.intake with stalePeriod := v } }) ∧
    (c.fields = [5, v] → v ≤ 255 →
      exec (.confConfidenceThreshold .host) s = set 5 { s' with focus := { s.focus with threshold := v } }) ∧
    (c.fields = [6, v] → v ≤ 255 →
      exec (.confDeadband .host) s = set 6 { s' with focus := { s.focus with deadband := v } }) ∧
    (c.fields = [7, v] → 1 ≤ v → v ≤ 30 →
      exec (.confLossLimit .host) s = set 7 { s' with focus := { s.focus with lossLimit := v } }) ∧
    (c.fields = [10, v] → 0x0600 ≤ v → v ≤ 0xFFFF →
      exec (.confTetherFrameType .host) s =
        set 10 { s' with
          tether := { s.tether with settings := { settings with frameType := BitVec.ofNat 16 v } } }) ∧
    (c.fields = [11, v] → v < 2 ^ 48 → v.testBit 40 = false →
      exec (.confStationAddress .host) s =
        set 11 { s' with tether := { s.tether with settings := { settings with station := BitVec.ofNat 48 v } } }) ∧
    (c.fields = [14, v] → 1 ≤ v → v ≤ 30 →
      exec (.confNegotiationTimeout .host) s =
        set 14 { s' with tether := { s.tether with settings := { settings with negotiation := v } } }) ∧
    (c.fields = [15, v] → 1 ≤ v → v ≤ 60 →
      exec (.confSilenceTimeout .host) s =
        set 15 { s' with tether := { s.tether with settings := { settings with silence := v } } }) ∧
    (c.fields = [16, v] → 50 ≤ v → v ≤ 2000 →
      exec (.confAcknowledgementTimeout .host) s =
        set 16 { s' with tether := { s.tether with settings := { settings with acknowledgement := v } } }) ∧
    ∀ (codes : List Nat) (l : List Mode), c.fields = 12 :: codes → settingAllows 12 codes → codes = l.map modeCode →
      exec (.confModePreferenceList .host) s =
        .next (answer .host c .done (.setting 12 codes)
          { s' with tether := { s.tether with settings := { settings with preferences := l } } })

/-- R86, whole: the drive timeout is 500 ms at reset; CONF sets it over 10 to 5,000 ms and leaves the timer of a drive
in flight; a value outside is BADARG and the timeout stays; a drive sent afterwards is timed by the value set. That
the setting is number 4 is the model's choice (notes/assumptions/5.md). -/
def Obligations.DriveTimeoutAppliesToLaterDrives : Prop :=
  State.reset.lens.driveTimeout = 500 ∧
  (∀ (v : Nat) (c : Cell) (s : State), Front .host codeCONF c s → c.fields = [4, v] →
    (10 ≤ v ∧ v ≤ 5000 →
      exec (.confDriveTimeout .host) s =
        .next (answer .host c .done (.setting 4 [v])
          { taken .host s with lens := { s.lens with driveTimeout := v } })) ∧
    (v < 10 ∨ 5000 < v →
      exec (.confDriveTimeout .host) s = .next (answerBare .host c .badarg (taken .host s)))) ∧
  ∀ (target : Nat) (s : State),
    (sendDrive target s).lens.driveTimer = some (s.lens.driveTimeout * 1000) ∧
      (sendDrive target s).lens.inFlight = some target ∧ (sendDrive target s).lens.state = .driving

/-- R4, R5, R139, R140, R144, R145, R152: the settings that act at once. A new floor tests a waiting development
again; a new warning level tests the space condition, SPACE_LOW or SPACE_OK raised where it changes; a new rank lets
the tether engine select; a change of card mode redirects and selects; tether power off takes the engine to DOWN, a
binding ending LOST with TETHER_LOST, and on, with the Ethernet link up, from DOWN to LINKED. The numbers of the
settings, the frames lost at DOWN, mode none and window 0 after LOST, the order in which a binding ends, and the
selections at the end: the model's choice (notes/assumptions/5.md, 18.md, 44.md, 35.md, 17.md). -/
def Obligations.ConfSettingsThatActAtOnce : Prop :=
  ∀ (v : Nat) (c : Cell) (s : State), Front .host codeCONF c s →
    (c.fields = [0, v] → v ≤ 1024 →
      exec (.confCaptureFloor .host) s =
        .next (answer .host c .done (.setting 0 [v])
          (retryWait { taken .host s with store := { s.store with floor := v } }))) ∧
    (c.fields = [1, v] → v ≤ 4032 →
      ∃ t, exec (.confSpaceWarningLevel .host) s = .next (answer .host c .done (.setting 1 [v]) t) ∧
        Emits { taken .host s with
          store := { s.store with warnLevel := v, low := decide (s.store.free.length < v) } } t ∧
        t = spaceTest { taken .host s with store := { s.store with warnLevel := v } } ∧
        let low := decide (s.store.free.length < v)
        let tested : State := { taken .host s with store := { s.store with warnLevel := v, low } }
        t = if low = s.store.low then tested else raise (if low then .spaceLow else .spaceOk) tested) ∧
    (c.fields = [8, 0] → s.cardMode = .overflow →
      exec (.confCardMode .host) s =
        .next (answer .host c .done (.setting 8 [0]) (settle { taken .host s with cardMode := .independent }))) ∧
    (c.fields = [8, 1] → s.cardMode = .independent →
      exec (.confCardMode .host) s =
        .next (answer .host c .done (.setting 8 [1])
          (settle (redirectAll { taken .host s with cardMode := .overflow })))) ∧
    (c.fields = [9, 0] → TetherLegal s.tether →
      ∃ t, exec (.confTetherPower .host) s = .next (answer .host c .done (.setting 9 [0]) t) ∧
        t.tether.link = .down ∧ t.tether.settings = { s.tether.settings with power := false } ∧
        t.tether.desk = none ∧ t.tether.transfer = none ∧ t.tether.negTimer = none ∧ t.tether.silenceTimer = none ∧
        (s.tether.link = .bound → t.tether.result = .lost) ∧
        (s.tether.link ≠ .bound → t.tether.result = s.tether.result) ∧
        let off : State :=
          { taken .host s with
            tether := { s.tether with settings := { s.tether.settings with power := false } } }
        let down (u : State) : State :=
          { u with tether := { u.tether with link := .down, negTimer := none, silenceTimer := none, ready := [] } }
        let b := endBinding off
        (s.tether.link = .bound →
          t = settle (raise .tetherLost
            (down { b with tether := { b.tether with mode := none, window := 0, result := .lost } }))) ∧
        (s.tether.link ≠ .bound → t = settle (down off))) ∧
    (c.fields = [9, 1] →
      exec (.confTetherPower .host) s =
        .next (answer .host c .done (.setting 9 [1])
          { taken .host s with
            tether :=
              if s.tether.link = .down ∧ s.pins.etherUp = true then
                { s.tether with
                  settings := { s.tether.settings with power := true }, link := .linked, mode := none, window := 0,
                  result := .notBound, negTimer := some (s.tether.settings.negotiation * 1000000) }
              else { s.tether with settings := { s.tether.settings with power := true } } })) ∧
    ∀ (codes : List Nat) (l : List Rendition), c.fields = 13 :: codes → settingAllows 13 codes →
      codes = l.map rendCode →
      exec (.confRenditionRank .host) s =
        .next (answer .host c .done (.setting 13 codes)
          (selectTransfer { taken .host s with
            tether := { s.tether with settings := { s.tether.settings with rank := l } } }))

/-! ## Table loads (R174 to R176) -/

/-- R174, R175: a LOAD that passes the checks opens the record with its kind, slot, length, tag and code. Where the
buffer does not yet reach the declared length it is not answered; where it does, the LOAD ends as a load in progress
does whose last bytes arrive: with exactly the declared length the image goes to its owner, and with more it is
BADTABLE, the excess counted as stray. The layout of the arguments and the numbers of the kinds: the model's choice
(notes/assumptions/5.md). -/
def Obligations.LoadOpensTheRecord : Prop :=
  ∀ (n slot length : Nat) (k : LoadKind) (c : Cell) (s : State), loadKindOfCode n = some k →
    Front .host codeLOAD c s →
    (k ≠ .recipe ∧ slot = 0 ∧ c.fields = [n, length] ∨ k = .recipe ∧ slot ≤ 3 ∧ c.fields = [n, slot, length]) →
    length ≤ 65536 → s.control.load = none → ¬ (k = .geometry ∧ s.control.opState = .run) →
    let l : LoadRecord := { kind := k, slot, length, tag := c.tag, code := codeLOAD }
    (s.control.loadBuffer.length < length →
      exec (loadRow .host c.fields) s = .next { taken .host s with control := { s.control with load := some l } }) ∧
    (∀ front last, s.pins.hostUp = true → 1 ≤ length → s.control.loadBuffer = front ++ last → 1 ≤ last.length →
      last.length ≤ 65536 →
      exec (loadRow .host c.fields) s =
        exec (.loadUnit last) { taken .host s with control := { s.control with load := some l, loadBuffer := front } }) ∧
    (1 ≤ length → length < s.control.loadBuffer.length →
      exec (loadRow .host c.fields) s =
        .next (sendCells .host (answerCells c.tag codeLOAD .badtable (.bytes []))
          (updCounters .host
            (fun q => { q with strayLoad := satAdd q.strayLoad (s.control.loadBuffer.length - length) })
            { taken .host s with control := { s.control with load := none, loadBuffer := [] } })))

/-- R174: the checks of LOAD in order: BADARG for an unlisted kind, a RECIPE slot above 3 or a length above 65,536;
BUSY, counted, while a load is in progress; STATE for GEOMETRY in RUN; and a declared length of 0 is answered at once,
BADTABLE for every kind but RECIPE, which is answered DONE with the development status; its table stays in every case.
The layout of the arguments, and a declared length of 0: the model's choice (notes/assumptions/5.md, 32.md). R122: the
development status holds the engine's state, the development in progress with its fixed outputs, the output being
produced and the requeue mark, the queued shots from the head with their priorities, the generations of the four slots
and the counters. Which output is being produced, and its pages given as their number: the model's choice (28.md,
51.md); the layout of the answer: 6.md. -/
def Obligations.LoadRefusesInOrder : Prop :=
  (∀ (n : Nat) (c : Cell) (s : State), Front .host codeLOAD c s →
    (n < 7 → c.fields = [] ∨ (∃ k rest, c.fields = k :: rest ∧ 7 ≤ k) →
      exec (loadRow .host [n]) s = .next (answerBare .host c .badarg (taken .host s))) ∧
    (∀ length, n < 7 → n ≠ 4 → c.fields = [n, length] → 65536 < length →
      exec (loadRow .host c.fields) s = .next (answerBare .host c .badarg (taken .host s))) ∧
    (∀ slot length, c.fields = [4, slot, length] → 3 < slot ∨ 65536 < length →
      exec (loadRow .host c.fields) s = .next (answerBare .host c .badarg (taken .host s))) ∧
    (∀ length, n < 7 → n ≠ 4 → c.fields = [n, length] → length ≤ 65536 →
      (s.control.load ≠ none →
        exec (loadRow .host c.fields) s =
          .next (answerBare .host c .busy
            (updCounters .host (fun k => { k with busy := satInc k.busy }) (taken .host s)))) ∧
      (s.control.load = none → n = 0 → s.control.opState = .run →
        exec (loadRow .host c.fields) s = .next (answerBare .host c .state (taken .host s))) ∧
      (s.control.load = none → length = 0 → ¬ (n = 0 ∧ s.control.opState = .run) →
        exec (loadRow .host c.fields) s =
          .next (answerBare .host c .badtable
            { taken .host s with control := { s.control with loadBuffer := [] } }))) ∧
    (∀ slot length, c.fields = [4, slot, length] → slot ≤ 3 → length ≤ 65536 → s.control.load ≠ none →
      exec (loadRow .host c.fields) s =
        .next (answerBare .host c .busy
          (updCounters .host (fun k => { k with busy := satInc k.busy }) (taken .host s)))) ∧
    ∀ slot, c.fields = [4, slot, 0] → slot ≤ 3 → s.control.load = none →
      ∃ r, exec (loadRow .host c.fields) s =
          .next (answer .host c .done (.development r)
            { taken .host s with control := { s.control with loadBuffer := [] } }) ∧
        r = devStatus s ∧ r.state = s.dev.state ∧ r.counters = s.dev.counters ∧
        r.generations = s.dev.bank.map fun b => (b.generation, b.previous.map fun p => p.1)) ∧
  ∀ s : State,
    let inHand (w : Work) : Option Rendition :=
      match w.sizes.getLast? with
      | some z => some z.rend
      | none => w.outputs.head?
    devStatus s =
      { state := s.dev.state
        work := s.dev.work.map fun w =>
          { number := (shotAt s w.slot).bind fun x => x.number, outputs := w.outputs
            producing :=
              (shotAt s w.slot).bind fun x => (inHand w).map fun r =>
                (r, (match r with | .raw => x.raw | .dev => x.dev | .prv => x.prv).pages.length)
            requeue := w.requeue }
        queue := s.dev.queue.map fun n =>
          ((shotAt s n).bind fun x => x.number, ((shotAt s n).map fun x => x.priority).getD 0)
        generations := s.dev.bank.map fun b => (b.generation, b.previous.map fun p => p.1)
        counters := s.dev.counters }

/-- R175, R176: a LOAD unit with no load in progress stays in the buffer up to 65,536 bytes, the rest counted as
stray; with a load in progress its bytes are gathered, and more than the declared length end the load BADTABLE with
the excess counted; a unit of another length is malformed. A unit with the host link down, where none can arrive,
changes nothing (the model's choice, notes/assumptions/3.md). -/
def Obligations.LoadUnitGathersBytes : Prop :=
  ∀ (payload : List Byte) (s : State),
    (s.pins.hostUp = false → exec (.loadUnit payload) s = .next s) ∧
    (s.pins.hostUp = true → payload.length = 0 ∨ 65536 < payload.length →
      exec (.loadUnit payload) s =
        .next (updCounters .host (fun k => { k with malformed := satInc k.malformed }) s)) ∧
    (s.pins.hostUp = true → 1 ≤ payload.length → payload.length ≤ 65536 →
      (s.control.load = none →
        exec (.loadUnit payload) s =
          .next (updCounters .host
            (fun k => { k with
              strayLoad := satAdd k.strayLoad ((s.control.loadBuffer ++ payload).length - 65536) })
            { s with control := { s.control with loadBuffer := (s.control.loadBuffer ++ payload).take 65536 } })) ∧
      ∀ l, s.control.load = some l →
        ((s.control.loadBuffer ++ payload).length < l.length →
          exec (.loadUnit payload) s =
            .next { s with control := { s.control with loadBuffer := s.control.loadBuffer ++ payload } }) ∧
        (l.length < (s.control.loadBuffer ++ payload).length →
          exec (.loadUnit payload) s =
            .next (sendCells .host (answerCells l.tag l.code .badtable (.bytes []))
              (updCounters .host
                (fun k => { k with
                  strayLoad := satAdd k.strayLoad ((s.control.loadBuffer ++ payload).length - l.length) })
                { s with control := { s.control with load := none, loadBuffer := [] } }))))

/-- R176 with R16, R33, R51, R72 to R74, R92 and R108: a complete image goes to its owner. One that passes the owner's
check replaces the table and is answered DONE with the LOAD's tag and code; one that fails it is BADTABLE and the
tables stay; a GEOMETRY image in RUN, and PROFILES that name the armed slot, are STATE. R92: in OFF and IDLE a site
table changes table and target alone; in any other focus state the engine is LOST with its counts at 0, without
estimate and not in band, and FOCUS_LOST is raised. R109: the old current generation of the slot becomes the previous
one where a shot still waits on it and is dropped otherwise, as is any previous one before it. The layout of the
images: the model's choice (notes/assumptions/7.md). One of bits 4 to 7 of the speed classes of a lens profile record
set makes its image BADTABLE: 58.md. The DONE of a recipe carries the development status as it stands then: 28.md,
51.md. -/
def Obligations.CompleteImageIsInstalledOrRefused : Prop :=
  ∀ (payload image : List Byte) (l : LoadRecord) (s : State), s.pins.hostUp = true → 1 ≤ payload.length →
    payload.length ≤ 65536 → s.control.load = some l → s.control.loadBuffer ++ payload = image →
    image.length = l.length →
    let closed : State := { s with control := { s.control with load := none, loadBuffer := [] } }
    let reply (st : Status) (t : State) :=
      Host.Outcome.next (φ := Fault) (ρ := Refusal) (sendCells .host (answerCells l.tag l.code st (.bytes [])) t)
    (l.kind = .routing →
      (∀ table, readRouting image = some table → routingOk table = true →
        exec (.loadUnit payload) s = reply .done { closed with store := { s.store with routing := some table } }) ∧
      ((∀ table, readRouting image = some table → routingOk table = false) →
        exec (.loadUnit payload) s = reply .badtable closed)) ∧
    (l.kind = .aliases →
      (∀ table, readAliases image = some table → aliasesOk table = true →
        exec (.loadUnit payload) s = reply .done { closed with lens := { s.lens with aliases := table } }) ∧
      ((∀ table, readAliases image = some table → aliasesOk table = false) →
        exec (.loadUnit payload) s = reply .badtable closed)) ∧
    (l.kind = .lensProfiles →
      (∀ table, readLensProfiles image = some table → lensProfilesOk table = true →
        exec (.loadUnit payload) s = reply .done { closed with lens := { s.lens with profiles := table } }) ∧
      ((∀ table, readLensProfiles image = some table → lensProfilesOk table = false) →
        exec (.loadUnit payload) s = reply .badtable closed)) ∧
    (l.kind = .profiles →
      (∀ table, readProfiles image = some table → profilesOk table = true →
        ((s.capture.state ≠ .disarmed ∧ ∃ r ∈ table, s.capture.armed = some r.1) →
          exec (.loadUnit payload) s = reply .state closed) ∧
        ((s.capture.state = .disarmed ∨ ∀ r ∈ table, s.capture.armed ≠ some r.1) →
          exec (.loadUnit payload) s =
            reply .done
              { closed with capture := { s.capture with profiles := placeProfiles table s.capture.profiles } })) ∧
      ((∀ table, readProfiles image = some table → profilesOk table = false) →
        exec (.loadUnit payload) s = reply .badtable closed)) ∧
    (l.kind = .geometry →
      (s.control.opState = .run → exec (.loadUnit payload) s = reply .state closed) ∧
      (s.control.opState = .standby →
        (∀ g, readGeometry image = some g → geometryOk g = true →
          (∀ f, s.intake.frame = some f →
            exec (.loadUnit payload) s =
              reply .done { closed with intake := { s.intake with waitingGeometry := some g } }) ∧
          (s.intake.frame = none →
            ∃ t, exec (.loadUnit payload) s = reply .done t ∧ t.intake.geometry = some g ∧
              t.intake.waitingGeometry = none ∧ t = { closed with intake := t.intake })) ∧
        ((∀ g, readGeometry image = some g → geometryOk g = false) →
          exec (.loadUnit payload) s = reply .badtable closed))) ∧
    (l.kind = .sites →
      (∀ table, readSites image = some table → sitesOk table = true →
        ∃ t, exec (.loadUnit payload) s = reply .done t ∧ t.focus.sites = table ∧
          t.focus.targetSource = .default ∧ t.focus.target = defaultTarget table ∧
          (s.focus.state = .off ∨ s.focus.state = .idle →
            t = { closed with
              focus := { s.focus with sites := table, target := defaultTarget table, targetSource := .default } }) ∧
          (s.focus.state ≠ .off → s.focus.state ≠ .idle →
            t =
              raise .focusLost { closed with
                focus := { s.focus with
                  sites := table, target := defaultTarget table, targetSource := .default, state := .lost
                  error := none, inBand := false, miss := 0, seek := 0, run := 0 } })) ∧
      ((∀ table, readSites image = some table → sitesOk table = false) →
        exec (.loadUnit payload) s = reply .badtable closed)) ∧
    (l.kind = .recipe →
      (∀ r, readRecipe image = some r → recipeOk r = true →
        ∃ t, exec (.loadUnit payload) s =
            .next (sendCells .host (answerCells l.tag l.code .done (.development (devStatus t))) t) ∧
          t = { closed with dev := t.dev } ∧
          ∀ b, s.dev.bank[l.slot]? = some b →
            let waits : Prop :=
              ∃ x ∈ s.store.shots, x.recipeSlot = l.slot ∧ x.recipeGen = b.generation ∧
                (x.dev.state = .pending ∨ x.dev.state = .filling ∨ x.prv.state = .pending ∨ x.prv.state = .filling)
            let installed (previous : Option (Nat × Recipe)) : RecipeSlot :=
              { generation := if b.generation < 65535 then b.generation + 1 else 1, current := some r, previous }
            t.dev = { s.dev with bank := t.dev.bank } ∧ (∀ i, i ≠ l.slot → t.dev.bank[i]? = s.dev.bank[i]?) ∧
              (¬ waits ∨ b.current = none → t.dev.bank[l.slot]? = some (installed none)) ∧
              ∀ old, waits → b.current = some old → t.dev.bank[l.slot]? = some (installed (some (b.generation, old)))) ∧
      ((∀ r, readRecipe image = some r → recipeOk r = false) →
        exec (.loadUnit payload) s = reply .badtable closed))

/-! ## Shots (01) -/

/-- R22, R23, R164: HOLD and DHLD set their hold on the shot named and change nothing else; DHLD on a shot without a
desk hold while 16 shots carry one is FULL. UNHD and DUNH clear their hold; where the shot then carries neither, its
READY renditions are tested for need and the shot for retirement; on a shot without that hold nothing changes. A DHLD
or DUNH answered DONE latches DESK_REQUEST. The order of the renditions: the model's choice
(notes/assumptions/37.md). -/
def Obligations.HoldsAreSetAndCleared : Prop :=
  ∀ (n : Nat) (x : Shot) (c : Cell) (s : State), 1 ≤ n → n ≤ 4294967295 → shotNumbered s n = some x →
    c.fields = [n] →
    (FrontInRun .host codeHOLD c s →
      exec (.hold .host) s =
        .next (answerBare .host c .done (updShot x.slot (fun y => { y with hostHold := true }) (taken .host s)))) ∧
    (FrontInRun .desk codeDHLD c s →
      (x.deskHold = true ∨ (s.store.shots.filter fun y => y.deskHold).length < 16 →
        exec (.dhld .desk) s =
          .next (raise .deskRequest
            (answerBare .desk c .done
              (updShot x.slot (fun y => { y with deskHold := true }) (taken .desk s))))) ∧
      (x.deskHold = false → 16 ≤ (s.store.shots.filter fun y => y.deskHold).length →
        exec (.dhld .desk) s = .next (answerBare .desk c .full (taken .desk s)))) ∧
    (FrontInRun .host codeUNHD c s →
      (x.hostHold = false → exec (.unhd .host) s = .next (answerBare .host c .done (taken .host s))) ∧
      (x.hostHold = true →
        exec (.unhd .host) s =
          .next (answerBare .host c .done
            (holdsCleared x.slot (updShot x.slot (fun y => { y with hostHold := false }) (taken .host s)))))) ∧
    (FrontInRun .desk codeDUNH c s →
      (x.deskHold = false →
        exec (.dunh .desk) s = .next (raise .deskRequest (answerBare .desk c .done (taken .desk s)))) ∧
      (x.deskHold = true →
        exec (.dunh .desk) s =
          .next (raise .deskRequest
            (answerBare .desk c .done
              (holdsCleared x.slot (updShot x.slot (fun y => { y with deskHold := false }) (taken .desk s))))))) ∧
    ∀ (slot : Nat) (y : Shot) (t : State), shotAt t slot = some y →
      (y.hostHold = true ∨ y.deskHold = true → holdsCleared slot t = t) ∧
      (y.hostHold = false → y.deskHold = false →
        holdsCleared slot t =
          retireTest slot (readyTest slot .prv (readyTest slot .dev (readyTest slot .raw t))))

/-- R14, R12, R9: a rendition is needed while a duty on it is OWED or ACTIVE, as RAW while DEV or PRV is PENDING or
FILLING, or READY while the shot is held; a READY rendition that is not needed and has no reader is released, its
pages returned and the shot tested for retirement; a shot retires exactly when it is SETTLED, without holds, with
every rendition ABSENT or RELEASED, and SHOT_RETIRED latches. R2 to R5, R118: pages return to the tail of the free
list in the order they held, and a development that waits for space is then tested again: the first free page joins
the output's page list where the count left is at or above the floor. What is left of a reservation returns so. The
space condition is the free count below the warning level; SPACE_LOW or SPACE_OK latches where it changes and nothing
where it does not. The byte length counted for each granted page: the model's choice (notes/assumptions/28.md). -/
def Obligations.NeedRuleReleasesAndRetires : Prop :=
  (∀ (x : Shot) (r : Rendition), needed x r = true ↔
    (∃ d ∈ x.duties, d.rend = r ∧ (d.state = .owed ∨ d.state = .active)) ∨
    (r = .raw ∧ (x.dev.state = .pending ∨ x.dev.state = .filling ∨ x.prv.state = .pending ∨ x.prv.state = .filling)) ∨
    ((rendOf x r).state = .ready ∧ (x.hostHold = true ∨ x.deskHold = true))) ∧
  (∀ (slot : Nat) (r : Rendition) (x : Shot) (s : State), shotAt s slot = some x →
    ((rendOf x r).state = .ready → (rendOf x r).readers = 0 → needed x r = false →
      readyTest slot r s =
        retireTest slot
          (returnPages (rendOf x r).pages
            (updShot slot
              (setRend r fun k => { k with state := .released, pages := [], content := .none }) s))) ∧
    ((rendOf x r).state ≠ .ready ∨ (rendOf x r).readers ≠ 0 ∨ needed x r = true → readyTest slot r s = s)) ∧
  (∀ (slot : Nat) (x : Shot) (s : State), shotAt s slot = some x →
    (x.state = .settled ∧ x.hostHold = false ∧ x.deskHold = false ∧
        (∀ r, (rendOf x r).state = .absent ∨ (rendOf x r).state = .released) →
      retireTest slot s =
        raise .shotRetired
          { s with store := { s.store with shots := s.store.shots.filter fun y => y.slot != slot } }) ∧
    (¬ (x.state = .settled ∧ x.hostHold = false ∧ x.deskHold = false ∧
        ∀ r, (rendOf x r).state = .absent ∨ (rendOf x r).state = .released) → retireTest slot s = s) ∧
    returnReservation slot s = returnPages x.reservation (updShot slot (fun y => { y with reservation := [] }) s)) ∧
  (∀ (pages : List Nat) (s : State),
    let t : State := { s with store := { s.store with free := pages } }
    let low := decide (pages.length < s.store.warnLevel)
    (pages = [] → returnPages pages s = s) ∧
    (pages ≠ [] → returnPages pages s = retryWait (setFree (s.store.free ++ pages) s)) ∧
    (low = s.store.low → setFree pages s = t) ∧
    (low ≠ s.store.low →
      setFree pages s =
        raise (if low then .spaceLow else .spaceOk) { t with store := { t.store with low } }) ∧
    spaceTest s = setFree s.store.free s) ∧
  ∀ s : State,
    (s.dev.state ≠ .waitSpace ∨ s.store.free.length ≤ s.store.floor → retryWait s = s) ∧
    ∀ p rest x r z, s.dev.state = .waitSpace → s.store.free = p :: rest → s.store.floor ≤ rest.length →
      producing s = some (x, r) → settledSize s r = some z →
      retryWait s =
        setFree rest
          (updShot x.slot
            (setRend r fun d =>
              { d with
                pages := d.pages ++ [p], length := min z.length ((d.pages.length + 1) * 1048576 - 256) })
            { s with dev := { s.dev with state := .developing } })

/-- R15, R13: a duty that moves takes the new state and reason, keeps its place among the duties, and its rendition's
reader count rises or falls by one as the duty becomes or stops being ACTIVE; the shot's other duties stay. A duty
that ends moves so, and a test on its rendition and the reassessment of the shot follow. R14, R15, R119, R112: the
test is that of a READY or PENDING rendition, or that of a development where a DEV or PRV is FILLING. A PENDING
rendition no longer needed is RELEASED, the shot is tested for retirement and leaves the develop queue with its last
PENDING output, a generation nobody waits for is dropped, and RAW is tested. R8, R9: reassessment is OPEN or SETTLED
as work remains, and the retirement test. -/
def Obligations.DutyMovesKeepOrderAndReaders : Prop :=
  (∀ (slot : Nat) (d : Dest) (r : Rendition) (st : DutyState) (reason : Option Reason) (x : Shot) (s : State),
    shotAt s slot = some x →
    let moved := updShot slot (moveDuty d r st reason) s
    setDuty slot d r st reason s = moved ∧
    ((rendOf x r).state = .ready → endDuty slot d r st reason s = reassess slot (readyTest slot r moved)) ∧
    ((rendOf x r).state = .pending → endDuty slot d r st reason s = reassess slot (pendingTest slot r moved)) ∧
    (r ≠ .raw → (rendOf x r).state = .filling →
      endDuty slot d r st reason s = reassess slot (abandonTest slot moved)) ∧
    ((rendOf x r).state = .absent ∨ (rendOf x r).state = .released ∨ (r = .raw ∧ x.raw.state = .filling) →
      endDuty slot d r st reason s = reassess slot moved)) ∧
  (∀ (slot : Nat) (r : Rendition) (x : Shot) (s : State), shotAt s slot = some x →
    let remains (y : Shot) : Bool :=
      (y.duties.any fun z => z.state == .owed || z.state == .active) || y.dev.state == .pending ||
        y.dev.state == .filling || y.prv.state == .pending || y.prv.state == .filling
    let stateNow (y : Shot) : ShotState :=
      match y.state, remains y with
      | .opened, false => .settled
      | .settled, true => .opened
      | st, _ => st
    reassess slot s = retireTest slot (updShot slot (fun y => { y with state := stateNow y }) s) ∧
    ((rendOf x r).state ≠ .pending ∨ needed x r = true → pendingTest slot r s = s) ∧
    ((rendOf x r).state = .pending → needed x r = false →
      pendingTest slot r s =
        readyTest slot .raw
          (previousTest (leaveQueue slot
            (retireTest slot
              (updShot slot
                (setRend r fun k => { k with state := .released, pages := [], content := .none }) s))))) ∧
    (x.dev.state = .pending ∨ x.prv.state = .pending → leaveQueue slot s = s) ∧
    (x.dev.state ≠ .pending → x.prv.state ≠ .pending →
      leaveQueue slot s = { s with dev := { s.dev with queue := s.dev.queue.filter fun m => m != slot } })) ∧
  ∀ (x : Shot) (d : Dest) (r : Rendition) (st : DutyState) (reason : Option Reason) (y : Duty),
    dutyOf x d r = some y →
    dutyOf (moveDuty d r st reason x) d r = some { y with state := st, reason } ∧
    (moveDuty d r st reason x).duties.map (fun z => (z.dest, z.rend)) = x.duties.map (fun z => (z.dest, z.rend)) ∧
    (∀ d' r', (d', r') ≠ (d, r) → dutyOf (moveDuty d r st reason x) d' r' = dutyOf x d' r') ∧
    (rendOf (moveDuty d r st reason x) r).readers =
      (if y.state = .active ∧ st ≠ .active then (rendOf x r).readers - 1
       else if y.state ≠ .active ∧ st = .active then (rendOf x r).readers + 1 else (rendOf x r).readers) ∧
    (∀ r', (rendOf (moveDuty d r st reason x) r').state = (rendOf x r').state ∧
      (rendOf (moveDuty d r st reason x) r').pages = (rendOf x r').pages)

/-- R24, R112, R7: PRIO and RUSH set the shot's editor priority; a shot in the develop queue moves to the place before
the first shot it precedes, by priority, highest first, then by shot number in the order of assignment; and the tether
engine selects from its reordered queue. When it selects: the model's choice (notes/assumptions/17.md). -/
def Obligations.PrioAndRushSetThePriority : Prop :=
  ∀ (n v : Nat) (x : Shot) (c : Cell) (s : State), 1 ≤ n → n ≤ 4294967295 → v ≤ 7 → shotNumbered s n = some x →
    c.fields = [n, v] →
    (FrontInRun .host codePRIO c s →
      exec (.prio .host) s =
        .next (answerBare .host c .done
          (selectTransfer (moveInQueue x.slot
            (updShot x.slot (fun y => { y with priority := v }) (taken .host s)))))) ∧
    (FrontInRun .desk codeRUSH c s →
      exec (.rush .desk) s =
        .next (raise .deskRequest
          (answerBare .desk c .done
            (selectTransfer (moveInQueue x.slot
              (updShot x.slot (fun y => { y with priority := v }) (taken .desk s))))))) ∧
    (∀ (slot : Nat) (t : State),
      (slot ∉ t.dev.queue → moveInQueue slot t = t) ∧
      (slot ∈ t.dev.queue →
        ∃ front back, (t.dev.queue.filter fun m => m != slot) = front ++ back ∧
          moveInQueue slot t = { t with dev := { t.dev with queue := front ++ slot :: back } } ∧
          (∀ m ∈ front, developBefore t slot m = false) ∧ ∀ m, back.head? = some m → developBefore t slot m = true)) ∧
    ∀ (a b : Nat) (y z : Shot) (t : State), shotAt t a = some y → shotAt t b = some z →
      let given (w : Shot) : Nat :=
        if w.number.getD 0 < t.store.nextNumber then w.number.getD 0 + 4294967296 else w.number.getD 0
      (developBefore t a b = true ↔ z.priority < y.priority ∨ (y.priority = z.priority ∧ given y < given z))

/-- R28: CAPN, from either channel, appends its entry to the shot's chain, or is FULL and changes nothing where the chain
would pass 1,024 bytes. Its argument is a 4-byte shot number, a 2-byte identifier and the data (10 section 10.6). -/
def Obligations.CapnAppendsOneEntry : Prop :=
  (∀ c : Cell, c.code = codeCAPN → c.args.length = 48 → 7 ≤ c.argLen.toNat → c.argLen.toNat ≤ 48 →
    c.fields = [readLe (c.args.take 4), readLe ((c.args.drop 4).take 2)] ∧
      c.data = (c.args.take c.argLen.toNat).drop 6) ∧
  ∀ (ch : Channel) (n ident : Nat) (x : Shot) (c : Cell) (s : State), FrontInRun ch codeCAPN c s →
    c.fields = [n, ident] → 1 ≤ n → n ≤ 4294967295 → ident ≤ 65535 → 1 ≤ c.data.length → c.data.length ≤ 42 →
    shotNumbered s n = some x →
    (chainLength x.chain + 4 + c.data.length ≤ 1024 →
      exec (.capn ch) s =
        .next (answerBare ch c .done
          (updShot x.slot (fun y => { y with chain := y.chain ++ [{ ident, data := c.data }] }) (taken ch s)))) ∧
    (1024 < chainLength x.chain + 4 + c.data.length →
      exec (.capn ch) s = .next (answerBare ch c .full (taken ch s)))

/-- R29, R68: SLST, SHOT and BLOG, from either channel and in either operating state, answer what stands and change
nothing. SLST lists every numbered shot from the starting number on, each once, in the order of assignment; while no
number has wrapped these are the shots of that number and above (the place of a number: the model's choice,
notes/assumptions/21.md). The layout of the answers, and the bytes one SHOT answer carries: notes/assumptions/6.md,
22.md. 10 sections 10.4 and 10.5: the 64 bytes of the shot summary, the shot record image that SHOT pages through,
behind its own length, and the burst record of BLOG, field by field, with the codes of their fields. The lens fields
of a shot without a snapshot: 26.md. -/
def Obligations.ReadsChangeNothing : Prop :=
  (∀ (ch : Channel) (c : Cell) (s : State),
    (∀ n, Front ch codeSLST c s → c.fields = [n] → 1 ≤ n → n ≤ 4294967295 →
      ∃ r, exec (.slst ch) s = .next (answer ch c .done (.shotList r) (taken ch s)) ∧
        r.free = s.store.free.length ∧ r.low = s.store.low ∧ r.floor = s.store.floor ∧
        r.warnLevel = s.store.warnLevel ∧
        r.provisional = (s.store.shots.filter fun x => x.provisional).length ∧
        r.reserved = (s.store.shots.map fun x => x.reservation.length).foldr (· + ·) 0 ∧
        r.shots.Perm
          ((s.store.shots.filter fun x => x.number.isSome && decide (startKey s n ≤ shotKey s x)).map fun x =>
            (x.number.getD 0, x.state)) ∧
        (r.shots.Pairwise fun a b => numberKey s.store.nextNumber a.1 ≤ numberKey s.store.nextNumber b.1) ∧
        ((∀ x ∈ s.store.shots, ∀ k, x.number = some k → k < s.store.nextNumber) →
          ∀ x ∈ s.store.shots, ∀ k, x.number = some k → (startKey s n ≤ shotKey s x ↔ n ≤ k))) ∧
    (∀ n offset x, Front ch codeSHOT c s → c.fields = [n, offset] → 1 ≤ n → n ≤ 4294967295 →
      shotNumbered s n = some x →
      exec (.shot ch) s =
        .next (answer ch c .done
          (.shotImage (imageBytes x).length (((imageBytes x).drop offset).take 46)) (taken ch s))) ∧
    (∀ k, Front ch codeBLOG c s → c.fields = [k] → k ≤ 7 →
      ∃ r, exec (.blog ch) s =
          .next (answer ch c .done (.capture r (s.capture.log[k]?.map burstBytes)) (taken ch s)) ∧
        r.state = s.capture.state ∧ r.armed = s.capture.armed ∧ r.fireLatch = s.capture.fireLatch ∧
        r.focus = s.pins.focus ∧ r.release = s.pins.release ∧ r.held = s.capture.ring.length ∧
        r.exposing = s.capture.ringExposing.isSome ∧ r.records = s.capture.log.length ∧
        r.nextBurst = s.capture.nextBurst ∧ r.skips = s.capture.skips ∧ r.discards = s.capture.discards)) ∧
  (([.exposing, .held, .opened, .settled] : List ShotState).map shotStateCode = [0, 1, 2, 3] ∧
    ([.absent, .pending, .filling, .ready, .released] : List RendState).map rendStateCode = [0, 1, 2, 3, 4] ∧
    ([.cardA, .cardB, .desk] : List Dest).map destCode = [0, 1, 2] ∧
    ([.raw, .dev, .prv] : List Rendition).map rendCode = [0, 1, 2] ∧
    ([.owed, .active, .met, .failed, .waived] : List DutyState).map dutyStateCode = [0, 1, 2, 3, 4] ∧
    reasonCode none = 0 ∧
    ([.cardFault, .redirected, .damaged, .deskDeclined, .skipped, .expired, .byHost] : List Reason).map
      (fun k => reasonCode (some k)) = [1, 2, 3, 4, 5, 6, 7] ∧
    ([.off, .idle, .seeking, .locked, .tracking, .lost] : List FocusState).map focusStateCode = [0, 1, 2, 3, 4, 5] ∧
    ([none, some .released, some .limit, some .disarmed] : List (Option BurstEnd)).map burstEndCode = [0, 1, 2, 3]) ∧
  (∀ x : Shot,
    let flags (l : List Bool) : List Byte := [BitVec.ofNat 8 (l.foldr (fun b k => b.toNat + 2 * k) 0)]
    let lens : List Byte :=
      match x.lens with
      | none => [0, 0, 0, 255, 255, 0, 0, 0]
      | some l =>
        le 1 l.aperture ++ le 2 (l.sensed.getD 0) ++ le 2 (l.profile.getD 65535) ++ le 2 (l.position.getD 0) ++
          flags [l.position.isSome, l.moving, l.sensed.isSome]
    let focus : List Byte :=
      match x.focus with
      | none => List.replicate 11 0
      | some f =>
        le 1 (focusStateCode f.state) ++ le 4 ((f.error.getD 0) % 2 ^ 32).toNat ++
          flags [f.inBand, f.error.isSome, f.centroid.isSome] ++ [0] ++
          le 2 (f.centroid.getD (0, 0)).1 ++ le 2 (f.centroid.getD (0, 0)).2
    let detail : List Byte :=
      match x.focus with
      | none => List.replicate 22 0
      | some f =>
        le 2 (f.measuredFrame.getD 0) ++ flags [f.measuredFrame.isSome, f.position.isSome] ++ le 1 f.sites.length ++
          f.sites.map (BitVec.ofNat 8) ++ List.replicate (16 - f.sites.length) 0 ++ le 2 (f.position.getD 0)
    let rend (r : Rend) : List Byte :=
      le 1 (rendStateCode r.state) ++ le 1 r.readers ++ le 1 r.pages.length ++ [0] ++ le 4 r.length
    let duty (d : Duty) : List Byte :=
      le 1 (destCode d.dest) ++ le 1 (rendCode d.rend) ++ le 1 (dutyStateCode d.state) ++ le 1 (reasonCode d.reason) ++
        le 8 d.created ++ le 8 (d.expiry.getD 0)
    let chain : List Byte :=
      (x.chain.map fun e => le 2 (4 + e.data.length) ++ le 2 e.ident ++ e.data).flatten ++ [0, 0]
    summaryBytes x =
      le 4 (x.number.getD 0) ++ le 2 (x.burst.getD (0, 0)).1 ++ le 2 (x.burst.getD (0, 0)).2 ++ le 8 x.captureTime ++
        le 1 x.profile ++ le 1 x.cls ++ le 1 x.recipeSlot ++
        flags [x.damaged, x.truncated, x.substituted, x.shadingMissing, x.lens.isSome, x.focus.isSome] ++
        le 2 x.recipeGen ++ le 2 x.filled ++ le 2 (x.firstFilled.getD 65535) ++ le 1 x.priority ++ lens ++ focus ++
        List.replicate 18 0 ∧
    (summaryBytes x).length = 64 ∧
    imageBytes x =
      le 2 (imageBytes x).length ++ le 1 x.slot ++ le 1 (shotStateCode x.state) ++
        flags [x.provisional, x.hostHold, x.deskHold] ++ le 1 x.duties.length ++ summaryBytes x ++ rend x.raw ++
        rend x.dev ++ rend x.prv ++ detail ++ (x.duties.map duty).flatten ++ chain ∧
    ((∀ f, x.focus = some f → f.sites.length ≤ 16) →
      (imageBytes x).length = 116 + 20 * x.duties.length + chain.length)) ∧
  ∀ b : BurstRecord,
    burstBytes b =
      le 2 b.number ++ le 1 b.profile ++ le 1 (burstEndCode b.ended) ++ le 8 b.start ++ le 4 (b.first.getD 0) ++
        le 1 b.pre ++ [0] ++ le 4 b.post ++ le 2 b.missedSpace ++ le 2 b.missedSlot ++ le 2 b.missedFocus

/-- R21: a command that names a shot answers BADARG for number 0 or an argument beyond 32 bits (as which bytes that
are no number read, notes/assumptions/5.md), and GONE for a number no shot of the table has; nothing else changes.
R21, R24, R28: whatever the number, a rendition or destination that is not listed, a priority above 7 and a CAPN
without data are BADARG. -/
def Obligations.NamingAShotIsCheckedFirst : Prop :=
  (∀ (n : Nat) (c : Cell) (s : State) (st : Status),
    (st = .badarg ∧ (n = 0 ∨ 4294967295 < n) ∨ st = .gone ∧ 1 ≤ n ∧ n ≤ 4294967295 ∧ shotNumbered s n = none) →
    (FrontInRun .host codeHOLD c s → c.fields = [n] →
      exec (.hold .host) s = .next (answerBare .host c st (taken .host s))) ∧
    (FrontInRun .host codeUNHD c s → c.fields = [n] →
      exec (.unhd .host) s = .next (answerBare .host c st (taken .host s))) ∧
    (∀ d r, d ≤ 2 → r ≤ 2 → FrontInRun .host codeWAIV c s → c.fields = [n, d, r] →
      exec (.waiv .host) s = .next (answerBare .host c st (taken .host s))) ∧
    (∀ v, v ≤ 7 → FrontInRun .host codePRIO c s → c.fields = [n, v] →
      exec (.prio .host) s = .next (answerBare .host c st (taken .host s))) ∧
    (FrontInRun .desk codeDHLD c s → c.fields = [n] →
      exec (.dhld .desk) s = .next (answerBare .desk c st (taken .desk s))) ∧
    (FrontInRun .desk codeDUNH c s → c.fields = [n] →
      exec (.dunh .desk) s = .next (answerBare .desk c st (taken .desk s))) ∧
    (∀ r, r ≤ 2 → FrontInRun .desk codePULL c s → c.fields = [n, r] →
      exec (.pull .desk) s = .next (answerBare .desk c st (taken .desk s))) ∧
    (∀ v, v ≤ 7 → FrontInRun .desk codeRUSH c s → c.fields = [n, v] →
      exec (.rush .desk) s = .next (answerBare .desk c st (taken .desk s))) ∧
    (∀ r, r ≤ 2 → FrontInRun .desk codeSKIP c s → c.fields = [n, r] →
      exec (.skip .desk) s = .next (answerBare .desk c st (taken .desk s))) ∧
    (∀ ch ident, ident ≤ 65535 → 1 ≤ c.data.length → c.data.length ≤ 42 → FrontInRun ch codeCAPN c s →
      c.fields = [n, ident] → exec (.capn ch) s = .next (answerBare ch c st (taken ch s))) ∧
    (∀ ch o, Front ch codeSHOT c s → c.fields = [n, o] →
      exec (.shot ch) s = .next (answerBare ch c st (taken ch s)))) ∧
  ∀ (n : Nat) (c : Cell) (s : State),
    let refused (ch : Channel) := Host.Outcome.next (φ := Fault) (ρ := Refusal) (answerBare ch c .badarg (taken ch s))
    (∀ d r, 3 ≤ d ∨ 3 ≤ r → FrontInRun .host codeWAIV c s → c.fields = [n, d, r] →
      exec (.waiv .host) s = refused .host) ∧
    (∀ v, 8 ≤ v → FrontInRun .host codePRIO c s → c.fields = [n, v] → exec (.prio .host) s = refused .host) ∧
    (∀ v, 8 ≤ v → FrontInRun .desk codeRUSH c s → c.fields = [n, v] → exec (.rush .desk) s = refused .desk) ∧
    (∀ r, 3 ≤ r → FrontInRun .desk codePULL c s → c.fields = [n, r] → exec (.pull .desk) s = refused .desk) ∧
    (∀ r, 3 ≤ r → FrontInRun .desk codeSKIP c s → c.fields = [n, r] → exec (.skip .desk) s = refused .desk) ∧
    (∀ ch ident, c.data = [] → FrontInRun ch codeCAPN c s → c.fields = [n, ident] →
      exec (.capn ch) s = refused ch)

/-- R25, R26, R17: WAIV of the host and SKIP of the desk. An OWED duty becomes WAIVED with its reason; an ACTIVE card
duty's write and an ACTIVE desk duty's transfer are stopped; a duty that has ended stays; a shot with no such duty is
GONE. Selection follows, after SKIP that of the tether engine alone. DUTY_EXPIRY: an OWED DESK duty that has an expiry
time becomes WAIVED EXPIRED when the time base stands there; another is not touched. The time that passes before an
expiry, and when selection follows: the model's choice (notes/assumptions/2.md, 17.md). -/
def Obligations.DutiesEndWithoutDelivery : Prop :=
  (∀ (n : Nat) (x : Shot) (d : Dest) (r : Rendition) (c : Cell) (s : State), 1 ≤ n → n ≤ 4294967295 →
    shotNumbered s n = some x →
    (FrontInRun .host codeWAIV c s → c.fields = [n, destCode d, rendCode r] →
      let done (t : State) := Host.Outcome.next (φ := Fault) (ρ := Refusal) (answerBare .host c .done (settle t))
      (dutyOf x d r = none → exec (.waiv .host) s = .next (answerBare .host c .gone (taken .host s))) ∧
      ∀ y, dutyOf x d r = some y →
        (y.state = .owed →
          exec (.waiv .host) s = done (endDuty x.slot d r .waived (some .byHost) (taken .host s))) ∧
        (y.state = .met ∨ y.state = .failed ∨ y.state = .waived → exec (.waiv .host) s = done (taken .host s)) ∧
        (∀ k w, y.state = .active → slotOfDest d = some k → (card s k).write = some w → w.slot = x.slot →
          w.rend = r → exec (.waiv .host) s = done (waiveWrite k w .byHost (taken .host s))) ∧
        (∀ t, y.state = .active → d = .desk → s.tether.transfer = some t → t.slot = x.slot → t.rend = r →
          exec (.waiv .host) s = done (stopTransfer t .byHost (taken .host s)))) ∧
    (FrontInRun .desk codeSKIP c s → c.fields = [n, rendCode r] →
      let done (t : State) :=
        Host.Outcome.next (φ := Fault) (ρ := Refusal) (answerBare .desk c .done (selectTransfer t))
      (dutyOf x .desk r = none → exec (.skip .desk) s = .next (answerBare .desk c .gone (taken .desk s))) ∧
      ∀ y, dutyOf x .desk r = some y →
        (y.state = .owed →
          exec (.skip .desk) s = done (endDuty x.slot .desk r .waived (some .skipped) (taken .desk s))) ∧
        (y.state = .met ∨ y.state = .failed ∨ y.state = .waived → exec (.skip .desk) s = done (taken .desk s)) ∧
        (∀ t, y.state = .active → s.tether.transfer = some t → t.slot = x.slot → t.rend = r →
          exec (.skip .desk) s = done (stopTransfer t .skipped (taken .desk s))))) ∧
  ∀ (n : Nat) (r : Rendition) (x : Shot) (s : State), shotNumbered s n = some x →
    (∀ y e, dutyOf x .desk r = some y → y.state = .owed → y.expiry = some e →
      exec (.dutyExpiry n r) s =
        .next (settle
          (endDuty x.slot .desk r .waived (some .expired) (elapse (e - s.control.timeBase) s)))) ∧
    ((∀ y, dutyOf x .desk r = some y → y.state ≠ .owed ∨ y.expiry = none) → exec (.dutyExpiry n r) s = .next s)

/-- R27, R20, R17, R8: PULL. A DESK duty on the rendition that is not MET already stands or is closed: DONE, nothing
changes. Otherwise, with the rendition READY, PENDING or (DEV, PRV) FILLING, the shot gets an OWED DESK duty on it,
the MET one reopened in its place or a new one at the end, created now and expiring after the class's lifetime, and a
SETTLED shot is OPEN; with DEV or PRV ABSENT or RELEASED and RAW READY it also becomes PENDING again and joins the
develop queue; RAW FILLING is STATE and what cannot come back is GONE. Each DONE latches DESK_REQUEST (R164). When
selection follows: the model's choice (notes/assumptions/17.md). -/
def Obligations.PullOwesADeskDuty : Prop :=
  ∀ (n : Nat) (x : Shot) (r : Rendition) (c : Cell) (s : State), 1 ≤ n → n ≤ 4294967295 →
    shotNumbered s n = some x → FrontInRun .desk codePULL c s → c.fields = [n, rendCode r] →
    let done (t : State) :=
      Host.Outcome.next (φ := Fault) (ρ := Refusal) (raise .deskRequest (answerBare .desk c .done t))
    let now := s.control.timeBase
    let lifetime := (classEntry s x.cls).lifetime
    let expiry := if lifetime = 0 then none else some (now + lifetime * 60000000)
    let owes (t : State) := updShot x.slot (fun y => reassessed (claimDuty now expiry r y)) t
    (∀ y, dutyOf x .desk r = some y → y.state ≠ .met → exec (.pull .desk) s = done (taken .desk s)) ∧
    ((∀ y, dutyOf x .desk r = some y → y.state = .met) →
      ((rendOf x r).state = .ready → exec (.pull .desk) s = done (selectTransfer (owes (taken .desk s)))) ∧
      ((rendOf x r).state = .pending → exec (.pull .desk) s = done (owes (taken .desk s))) ∧
      ((rendOf x r).state = .filling → r ≠ .raw → exec (.pull .desk) s = done (owes (taken .desk s))) ∧
      ((rendOf x r).state = .filling → r = .raw →
        exec (.pull .desk) s = .next (answerBare .desk c .state (taken .desk s))) ∧
      ((rendOf x r).state = .absent ∨ (rendOf x r).state = .released →
        (r ≠ .raw → x.raw.state = .ready →
          exec (.pull .desk) s =
            done (joinQueue x.slot
              (updShot x.slot (setRend r fun k => { k with state := .pending }) (owes (taken .desk s))))) ∧
        (r = .raw ∨ x.raw.state ≠ .ready →
          exec (.pull .desk) s = .next (answerBare .desk c .gone (taken .desk s)))) ∧
      let z := reassessed (claimDuty now expiry r x)
      dutyOf z .desk r = some { dest := .desk, rend := r, state := .owed, reason := none, created := now, expiry } ∧
        z = { x with duties := z.duties, state := if x.state = .settled then .opened else x.state } ∧
        (∀ d' r', (d', r') ≠ (.desk, r) → dutyOf z d' r' = dutyOf x d' r') ∧
        (z.duties.map fun d => (d.dest, d.rend)) =
          (x.duties.map fun d => (d.dest, d.rend)) ++ (if (dutyOf x .desk r).isSome then [] else [(.desk, r)]))

/-! ## Capture control (03) -/

/-- R54: the checks of ARMC (BADARG for a slot above 7; STATE without geometry or routing table, for an empty profile
slot and outside DISARMED and ARMED), and what it does: from DISARMED the slot is armed, the focus engine told (R53),
and the lines and the latch act as they stand; in ARMED another slot takes its place, and the same slot changes
nothing. The selections at the end: the model's choice (notes/assumptions/17.md). An ARMC in ARMED to a slot of the
same focus mode leaves the focus engine as it was: the model's choice (62.md). -/
def Obligations.ArmcArmsTheNamedSlot : Prop :=
  ∀ (slot : Nat) (c : Cell) (s : State), FrontInRun .host codeARMC c s → c.fields = [slot] →
    let done (t : State) := Host.Outcome.next (φ := Fault) (ρ := Refusal) (answerBare .host c .done t)
    (7 < slot → exec (.armc .host) s = .next (answerBare .host c .badarg (taken .host s))) ∧
    (slot ≤ 7 →
      s.intake.geometry = none ∨ s.store.routing = none ∨ s.capture.profiles.getD slot none = none ∨
        (s.capture.state ≠ .disarmed ∧ s.capture.state ≠ .armed) →
      exec (.armc .host) s = .next (answerBare .host c .state (taken .host s))) ∧
    ∀ p, slot ≤ 7 → s.intake.geometry ≠ none → s.store.routing ≠ none →
      s.capture.profiles.getD slot none = some p →
      let armed (st : CaptureState) : State :=
        { taken .host s with
          capture := { s.capture with armed := some slot, state := st }
          focus :=
            reportToFocus (some p.focusMode) (s.pins.focus || (s.pins.release || s.capture.fireLatch)) s.focus }
      (s.capture.state = .disarmed →
        (s.pins.release = false → s.capture.fireLatch = false →
          exec (.armc .host) s =
            done (settle (armed (if s.pins.focus = true ∧ 1 ≤ p.depth then .gathering else .armed)))) ∧
        (s.pins.release = true ∨ s.capture.fireLatch = true →
          (releaseGate (armed .armed) = true → exec (.armc .host) s = done (settle (enterFiring (armed .armed)))) ∧
          (releaseGate (armed .armed) = false → exec (.armc .host) s = done (settle (armed .awaitingFocus))))) ∧
      (s.capture.state = .armed →
        (s.capture.armed = some slot → exec (.armc .host) s = done (taken .host s)) ∧
        (s.capture.armed ≠ some slot → exec (.armc .host) s = done (armed .armed)))

/-- R55, R64, R10: DSRM ends an open burst with reason DISARMED, discards the ring, clears the fire latch and the
armed slot and tells the focus engine; in DISARMED it changes nothing. The ring is discarded oldest first and left
empty, the exposing shot leaving it: a discarded shot leaves the table and its RAW pages return to the free list. -/
def Obligations.DsrmDisarms : Prop :=
  (∀ (c : Cell) (s : State), FrontInRun .host codeDSRM c s →
    (s.capture.state = .disarmed → exec (.dsrm .host) s = .next (answerBare .host c .done (taken .host s))) ∧
    (s.capture.state ≠ .disarmed →
      let ended (t : State) : State :=
        if s.capture.state = .firing ∨ s.capture.state = .stalled then
          raise .burstEnd
            { t with
              capture := { s.capture with log := updLast (fun b => { b with ended := some .disarmed }) s.capture.log } }
        else t
      let t := discardRing (ended (taken .host s))
      exec (.dsrm .host) s =
          .next (answerBare .host c .done
            { t with
              capture := { t.capture with fireLatch := false, armed := none, state := .disarmed }
              focus := reportToFocus none false s.focus }) ∧
        t.capture.ring = [] ∧ t.capture.ringExposing = none)) ∧
  (∀ s : State,
    let t := s.capture.ring.foldl (fun u slot => discardShot slot u) s
    discardRing s = { t with capture := { t.capture with ring := [], ringExposing := none } }) ∧
  ∀ (slot : Nat) (x : Shot) (s : State), shotAt s slot = some x →
    discardShot slot s =
      returnPages x.raw.pages
        { s with store := { s.store with shots := s.store.shots.filter fun y => y.slot != slot } }

/-- R52: FIRE and CEAS set and clear the fire latch, and the RELEASE line moves; release is asserted while either is.
A change of the condition acts on the capture state, a change that leaves it does not; FIRE is STATE in DISARMED, and
what already stands changes nothing. The focus engine is told (R53) and the gate and selection follow. The gate test
and selection at the end, and a level already reported: the model's choice (notes/assumptions/17.md, 3.md). -/
def Obligations.FireLatchAndReleaseLineMove : Prop :=
  let follow (t : State) := finish (reportCapture t)
  (∀ (c : Cell) (s : State), FrontInRun .host codeFIRE c s →
    let set : State := { taken .host s with capture := { s.capture with fireLatch := true } }
    (s.capture.state = .disarmed → exec (.fire .host) s = .next (answerBare .host c .state (taken .host s))) ∧
    (s.capture.state ≠ .disarmed →
      (s.capture.fireLatch = true → exec (.fire .host) s = .next (answerBare .host c .done (taken .host s))) ∧
      (s.capture.fireLatch = false → s.pins.release = true →
        exec (.fire .host) s = .next (answerBare .host c .done (follow set))) ∧
      (s.capture.fireLatch = false → s.pins.release = false →
        exec (.fire .host) s = .next (answerBare .host c .done (follow (assertRelease set)))))) ∧
  (∀ (c : Cell) (s : State), FrontInRun .host codeCEAS c s →
    let clear : State := { taken .host s with capture := { s.capture with fireLatch := false } }
    (s.capture.fireLatch = false → exec (.ceas .host) s = .next (answerBare .host c .done (taken .host s))) ∧
    (s.capture.fireLatch = true → s.pins.release = true →
      exec (.ceas .host) s = .next (answerBare .host c .done (follow clear))) ∧
    (s.capture.fireLatch = true → s.pins.release = false →
      exec (.ceas .host) s = .next (answerBare .host c .done (follow (negateRelease clear))))) ∧
  ∀ (level : Bool) (s : State),
    let moved : State := { s with pins := { s.pins with release := level } }
    (s.pins.release = level → exec (.releaseLineChange level) s = .next s) ∧
    (s.pins.release ≠ level → s.capture.fireLatch = true → exec (.releaseLineChange level) s = .next (follow moved)) ∧
    (s.pins.release ≠ level → s.capture.fireLatch = false →
      exec (.releaseLineChange level) s =
        .next (follow (if level then assertRelease moved else negateRelease moved)))

/-- R58, R56, R65, R67: when the two gates are open; and entry to FIRING opens a burst under the next burst number,
promotes the shots of the ring oldest first, each HELD one with its duties created, then the exposing one, and leaves
the ring empty: a promoted shot is numbered, takes the burst number and the next burst index, is the burst's first
shot where it has none, and is no longer provisional. A command that can open the release gate ends with its test, in
AWAITING_FOCUS alone, and with selection by slot A, slot B and the tether engine (the model's choice,
notes/assumptions/17.md). -/
def Obligations.GatesAndTheOpeningBurst : Prop :=
  (∀ (s : State) (p : Profile), armedProfile s = some p →
    let free : Prop :=
      p.releaseMode = .releasePriority ∨ p.focusMode = .manual ∨
        (s.lens.state ≠ .ready ∧ s.lens.state ≠ .driving) ∨ (p.focusMode = .single ∧ s.focus.state = .locked)
    (releaseGate s = true ↔ free ∨ p.focusMode = .continuous) ∧
    (frameGate s p = true ↔ free ∨ (p.focusMode = .continuous ∧ s.focus.inBand = true))) ∧
  (∀ s : State,
    (s.capture.state = .awaitingFocus → releaseGate s = true → finish s = settle (enterFiring s)) ∧
    (s.capture.state ≠ .awaitingFocus ∨ releaseGate s = false → finish s = settle s) ∧
    settle s = selectTransfer (selectCard .b (selectCard .a s))) ∧
  (∀ s : State,
    let t := enterFiring s
    let c := s.capture
    t.capture.state = .firing ∧ t.capture.ring = [] ∧ t.capture.ringExposing = none ∧ t.capture.burstFrames = 0 ∧
      t.capture.nextBurst = (if c.nextBurst < 65535 then c.nextBurst + 1 else 1) ∧
      (∃ b, t.capture.log = (if c.log.length < 8 then c.log else c.log.drop 1) ++ [b] ∧ b.number = c.nextBurst ∧
        b.start = s.control.timeBase ∧ b.pre = c.ring.length + (if c.ringExposing.isSome then 1 else 0) ∧ b.post = 0 ∧
        b.missedSpace = 0 ∧ b.missedSlot = 0 ∧ b.missedFocus = 0 ∧ b.ended = none) ∧
      Captures s t ∧
      let pre := c.ring.length + (if c.ringExposing.isSome then 1 else 0)
      let burst : BurstRecord :=
        { number := c.nextBurst, profile := c.armed.getD 0, start := s.control.timeBase, first := none, pre := 0
          post := 0, missedSpace := 0, missedSlot := 0, missedFocus := 0, ended := none }
      let opened : State :=
        { s with
          capture := { c with
            state := .firing, log := (if c.log.length < 8 then c.log else c.log.drop 1) ++ [burst], burstFrames := 0
            burstIndex := 0, nextBurst := if c.nextBurst < 65535 then c.nextBurst + 1 else 1 } }
      let held := c.ring.foldl (fun u slot => createDuties slot (promoteShot slot u)) opened
      let all := match c.ringExposing with
        | some slot => promoteShot slot held
        | none => held
      t =
        { all with
          capture := { all.capture with
            ring := [], ringExposing := none, log := updLast (fun b => { b with pre }) all.capture.log } }) ∧
  ∀ (slot : Nat) (x : Shot) (s : State), shotAt s slot = some x →
    shotAt (promoteShot slot s) slot =
      some { x with
        provisional := false, number := some s.store.nextNumber
        burst := some (burstNumber s, min (s.capture.burstIndex + 1) 65535) } ∧
      (promoteShot slot s).capture =
        { s.capture with
          burstIndex := min (s.capture.burstIndex + 1) 65535
          log := updLast (fun b => { b with first := some (b.first.getD s.store.nextNumber) }) s.capture.log } ∧
      (promoteShot slot s).store.nextNumber = (if s.store.nextNumber < 4294967295 then s.store.nextNumber + 1 else 1)

/-- R56, R57, R53: what the lines do by capture state. An assertion of release takes ARMED and GATHERING to FIRING
with the gate open and to AWAITING_FOCUS with it closed. At a negation AWAITING_FOCUS falls back to GATHERING, or to
ARMED with the ring discarded; FIRING and STALLED end the burst with reason RELEASED, and SPENT has none to end. FOCUS
asserted in ARMED with a pre-capture depth above 0 starts GATHERING; negated in GATHERING the ring is discarded and
capture is ARMED, and in AWAITING_FOCUS the ring alone is discarded. In the other states only the focus demand follows
the line. R100: what the focus engine makes of a report. DISARMED takes it to OFF with its record cleared. An arming
or another mode takes it to OFF in MANUAL, and otherwise to SEEKING or TRACKING with focus demand and to IDLE without.
Demand taken in IDLE starts SEEKING or TRACKING, demand gone takes any state but OFF to IDLE, and a state entered
starts its counts at 0. The gate test and selection at the end of FOCUS_LINE_CHANGE, and a level already reported: the
model's choice (notes/assumptions/17.md, 3.md). A report of the mode that stands, as at an ARMC to another slot of
that mode, moves nothing: the model's choice (62.md). -/
def Obligations.LinesMoveTheCaptureState : Prop :=
  (∀ s : State,
    let at_ (st : CaptureState) (t : State) : State := { t with capture := { t.capture with state := st } }
    let gathers : Prop := s.pins.focus = true ∧ ∃ p, armedProfile s = some p ∧ 1 ≤ p.depth
    let ended : State :=
      raise .burstEnd
        { s with
          capture := { s.capture with log := updLast (fun b => { b with ended := some .released }) s.capture.log } }
    (s.capture.state = .armed ∨ s.capture.state = .gathering →
      (releaseGate s = true → assertRelease s = enterFiring s) ∧
      (releaseGate s = false → assertRelease s = at_ .awaitingFocus s)) ∧
    (s.capture.state ≠ .armed → s.capture.state ≠ .gathering → assertRelease s = s) ∧
    (s.capture.state = .awaitingFocus →
      (gathers → negateRelease s = at_ .gathering s) ∧ (¬ gathers → negateRelease s = at_ .armed (discardRing s))) ∧
    (s.capture.state = .firing ∨ s.capture.state = .stalled →
      (gathers → negateRelease s = at_ .gathering ended) ∧ (¬ gathers → negateRelease s = at_ .armed ended)) ∧
    (s.capture.state = .spent →
      (gathers → negateRelease s = at_ .gathering s) ∧ (¬ gathers → negateRelease s = at_ .armed s)) ∧
    (s.capture.state = .disarmed ∨ s.capture.state = .armed ∨ s.capture.state = .gathering → negateRelease s = s)) ∧
  (∀ (level : Bool) (s : State),
    let moved : State := { s with pins := { s.pins with focus := level } }
    let follow (t : State) := Host.Outcome.next (φ := Fault) (ρ := Refusal) (finish (reportCapture t))
    (s.pins.focus = level → exec (.focusLineChange level) s = .next s) ∧
    (s.pins.focus = false → level = true → s.capture.state = .armed → (∃ p, armedProfile s = some p ∧ 1 ≤ p.depth) →
      exec (.focusLineChange level) s =
        follow { moved with capture := { s.capture with state := .gathering } }) ∧
    (s.pins.focus = false → level = true →
      s.capture.state ≠ .armed ∨ (∀ p, armedProfile s = some p → p.depth = 0) →
      exec (.focusLineChange level) s = follow moved) ∧
    (s.pins.focus = true → level = false →
      (s.capture.state = .gathering →
        exec (.focusLineChange level) s =
          follow
            { discardRing moved with capture := { (discardRing moved).capture with state := .armed } }) ∧
      (s.capture.state = .awaitingFocus → exec (.focusLineChange level) s = follow (discardRing moved)) ∧
      (s.capture.state ≠ .gathering → s.capture.state ≠ .awaitingFocus →
        exec (.focusLineChange level) s = follow moved)) ∧
    ∀ t : State, reportCapture t =
      { t with
        focus :=
          reportToFocus (if t.capture.state = .disarmed then none else (armedProfile t).map fun p => p.focusMode)
            (t.capture.state != .disarmed && (t.pins.focus || (t.pins.release || t.capture.fireLatch))) t.focus }) ∧
  ∀ (mode : Option FocusMode) (demand : Bool) (f : Focus),
    let g : Focus := { f with armed := mode.isSome, mode, demand }
    let enters (st : FocusState) : Focus := { g with state := st, miss := 0, seek := 0, run := 0 }
    let off : Focus :=
      { enters .off with
        error := none, inBand := false, inFocus := [], centroid := none, history := [], velocity := 0
        predicted := none }
    let takes (m : FocusMode) : Focus :=
      match m with
      | .manual => off
      | .single => if demand then enters .seeking else enters .idle
      | .continuous => if demand then enters .tracking else enters .idle
    (mode = none → f.armed = true → reportToFocus mode demand f = off) ∧
    (mode = none → f.armed = false → reportToFocus mode demand f = g) ∧
    ∀ m, mode = some m →
      (f.armed = false ∨ f.mode ≠ some m → reportToFocus mode demand f = takes m) ∧
      (f.armed = true → f.mode = some m →
        (f.demand = demand ∨ f.state = .off → reportToFocus mode demand f = g) ∧
        (f.demand ≠ demand → f.state = .idle →
          (demand = true → reportToFocus mode demand f = takes m) ∧
          (demand = false → reportToFocus mode demand f = g)) ∧
        (f.demand ≠ demand → f.state ≠ .off → f.state ≠ .idle →
          (demand = false → reportToFocus mode demand f = enters .idle) ∧
          (demand = true → reportToFocus mode demand f = g)))

/-! ## Sensor intake (02) -/

/-- R31, R34, R38, R39, R45: FRAME_START. On lane 0 the lane monitor hears the packet as it hears a filler sequence,
LOCKED or LOST, and the packet is then taken, or with a failed check discarded and counted. The lines begun are first
taken as incomplete, an open frame closes NEXT_START, and every LOCKED lane becomes usable. With lane 0 LOCKED and a
geometry table the command completes so in every state. In RUN a frame then opens under the table with the stale timer
at its period; capture control names its shot, whose first RAW page is taken, and outside DISARMED it takes a live
buffer: the first FREE one, otherwise the WAITING one, whose frame is counted dropped, otherwise none. In STANDBY no
frame opens. With another source, or without a geometry table, the packet is ignored. Usable lanes while no frame is
open, the order of the lines begun, the packet of a LOST lane, and the selections at the end: the model's choice
(notes/assumptions/38.md, 12.md, 40.md, 17.md). -/
def Obligations.FrameStartOpensAFrame : Prop :=
  (∀ (counter : Word16) (g : Geometry) (s : State), s.intake.source = .sensor → s.intake.geometry = some g →
    1 ≤ g.laneCount → (laneAt s 0).locked = true →
    let lanes :=
      if s.control.opState = .run then
        updNth (fun l : Lane => { l with timer := some (s.intake.lossInterval * 4) }) 0 s.intake.lanes
      else s.intake.lanes
    exec (.frameStart true counter) s =
      .next (settle (takeFrameStart counter.toNat { s with intake := { s.intake with lanes } }))) ∧
  (∀ (counter : Word16) (g : Geometry) (s u : State), s.intake.source = .sensor → s.intake.geometry = some g →
    1 ≤ g.laneCount → exec (.fillerSequence 0) s = .next u →
    let count := s.intake.counters
    let heard :=
      if s.control.opState = .run then
        updNth (fun l : Lane => { l with timer := some (s.intake.lossInterval * 4) }) 0 s.intake.lanes
      else s.intake.lanes
    let failed (t : State) :=
      Host.Outcome.next (φ := Fault) (ρ := Refusal) (settle
        { t with
          intake := { t.intake with counters := { count with checkFail := updNth satInc 0 count.checkFail } } })
    exec (.frameStart true counter) s = .next (settle (takeFrameStart counter.toNat u)) ∧
    ((laneAt s 0).locked = true →
      exec (.frameStart false counter) s = failed s ∧ u = { s with intake := { s.intake with lanes := heard } }) ∧
    ((laneAt s 0).locked = false → exec (.frameStart false counter) s = failed u)) ∧
  (∀ (n : Nat) (s : State), takeFrameStart n s = takeFrameStart n (closeFrame .nextStart (flushAll s))) ∧
  (∀ (n : Nat) (s : State), s.intake.frame = none → s.intake.parts = [] →
    let count := s.intake.counters
    let lanes := s.intake.lanes.map fun l => { l with usable := l.locked }
    let t := takeFrameStart n s
    (s.control.opState = .standby ∨ s.intake.geometry = none → t = { s with intake := { s.intake with lanes } }) ∧
    ∀ g, s.control.opState = .run → s.intake.geometry = some g →
      let frame : OpenFrame :=
        { counter := n, lastImage := none, lastPhase := none, embedded := [], rejRange := 0, rejOrder := 0
          rejIncomplete := 0, staleTimer := some (s.intake.stalePeriod * 50), geometry := g
          source := s.intake.source, shot := none, truncated := false, lastStored := none, liveBuffer := none
          fills := 0, phases := [], reduced := [] }
      let opened : State :=
        { s with
          intake := { s.intake with
            lanes, frame := some frame, counters := { count with opened := satInc count.opened } } }
      let started := (frameStartCapture opened).1
      (s.capture.state = .disarmed → t = opened) ∧
      (s.capture.state ≠ .disarmed →
        ∃ f, t.intake.frame = some f ∧
          f = { frame with shot := (frameStartCapture opened).2, liveBuffer := f.liveBuffer } ∧
          ((frameStartCapture opened).2 = none → t = { started with intake := t.intake }) ∧
          (∀ slot, (frameStartCapture opened).2 = some slot →
            (takeRawPage slot started = none → t = { started with intake := t.intake }) ∧
            ∀ paged, takeRawPage slot started = some paged → t = { paged with intake := t.intake }) ∧
          Captures { opened with intake := t.intake } t ∧
          (s.intake.buffer0.state = .free →
            f.liveBuffer = some 0 ∧ t.intake.buffer0 = { state := .filling, frame := none } ∧
              t.intake.buffer1 = s.intake.buffer1) ∧
          (s.intake.buffer0.state ≠ .free → s.intake.buffer1.state = .free →
            f.liveBuffer = some 1 ∧ t.intake.buffer1 = { state := .filling, frame := none } ∧
              t.intake.buffer0 = s.intake.buffer0) ∧
          (s.intake.buffer0.state ≠ .free → s.intake.buffer1.state ≠ .free →
            (s.intake.buffer0.state = .waiting →
              f.liveBuffer = some 0 ∧ t.intake.buffer0 = { state := .filling, frame := none } ∧
                t.intake.buffer1 = s.intake.buffer1 ∧
                t.intake.counters =
                  { count with opened := satInc count.opened, liveDropped := satInc count.liveDropped }) ∧
            (s.intake.buffer0.state ≠ .waiting → s.intake.buffer1.state = .waiting →
              f.liveBuffer = some 1 ∧ t.intake.buffer1 = { state := .filling, frame := none } ∧
                t.intake.buffer0 = s.intake.buffer0 ∧
                t.intake.counters =
                  { count with opened := satInc count.opened, liveDropped := satInc count.liveDropped }) ∧
            (s.intake.buffer0.state ≠ .waiting → s.intake.buffer1.state ≠ .waiting →
              f.liveBuffer = none ∧ t.intake.buffer0 = s.intake.buffer0 ∧
                t.intake.buffer1 = s.intake.buffer1)))) ∧
  ∀ (ok : Bool) (counter : Word16) (s : State), s.intake.source ≠ .sensor ∨ s.intake.geometry = none →
    exec (.frameStart ok counter) s = .next (settle s)

/-- R6, R3, R7: admission takes the lowest FREE slot, is SLOT without one and SPACE below the raw reserve, and
otherwise writes the whole record, with the generation of the recipe slot as it stands, reserves the pages and numbers
a shot that is not provisional. R59 to R62, R77, R105: the shot of a frame start takes the lens snapshot, none in
ABSENT, the focus record, none in MANUAL mode or without a lens that drives and an estimate, and in a burst its number
and the next burst index. A frame start admits by capture state, the due frames of a burst through the frame gate; a
due frame without slot or space stalls the burst, and each admitted shot joins the burst, as its first shot where it
has none; the one that reaches the limit ends it with reason LIMIT and BURST_END. -/
def Obligations.FrameStartAdmitsShots : Prop :=
  let absent : Rend := { state := .absent, pages := [], length := 0, readers := 0, content := .none }
  let fresh (slot n : Nat) (p : Profile) (provisional : Bool) (s : State) : Shot :=
    { slot, number := if provisional then none else some s.store.nextNumber, burst := none, state := .exposing
      provisional, captureTime := s.control.timeBase, profile := n, cls := p.cls, recipeSlot := p.recipe
      recipeGen := (s.dev.bank.getD p.recipe RecipeSlot.reset).generation
      reservation := s.store.free.take p.reserve, lens := none, focus := none, damaged := false, filled := 0
      firstFilled := none, truncated := false, substituted := false, shadingMissing := false
      raw := { absent with state := .filling, content := .raw [] }, dev := absent, prv := absent, duties := []
      hostHold := false, deskHold := false, priority := 0, chain := [], readout := none }
  (∀ (n : Nat) (p : Profile) (provisional : Bool) (s : State),
    (freeSlot s = none → admitShot n p provisional s = (.noSlot, s)) ∧
    ∀ slot, freeSlot s = some slot →
      slot < 128 ∧ shotAt s slot = none ∧ (∀ m, m < slot → shotAt s m ≠ none) ∧
      (s.store.free.length < p.reserve → admitShot n p provisional s = (.noSpace, s)) ∧
      (p.reserve ≤ s.store.free.length →
        ∃ t, admitShot n p provisional s = (.admitted slot, t) ∧
          shotAt t slot = some (fresh slot n p provisional s) ∧
          t.store.free = s.store.free.drop p.reserve ∧
          t.store.nextNumber =
            (if provisional then s.store.nextNumber
             else if s.store.nextNumber < 4294967295 then s.store.nextNumber + 1 else 1))) ∧
  ∀ (n : Nat) (p : Profile) (s : State), s.capture.armed = some n → armedProfile s = some p →
    let rings : Prop := s.pins.focus = true ∧ 1 ≤ p.depth
    let counted : State := { s with capture := { s.capture with burstFrames := s.capture.burstFrames + 1 } }
    let missed (f : BurstRecord → BurstRecord) : State :=
      { counted with capture := { counted.capture with log := updLast f s.capture.log } }
    let snapped (x : Shot) : Shot :=
      { x with
        lens :=
          if s.lens.state = .absent then none
          else
            some
              { sensed := s.lens.sensed, profile := s.lens.profileId, position := s.lens.position
                moving := s.lens.inFlight.isSome, aperture := s.lens.aperture }
        focus :=
          if p.focusMode = .manual ∨ (s.lens.state ≠ .ready ∧ s.lens.state ≠ .driving ∧ s.focus.error = none) then none
          else
            some
              { state := s.focus.state, measuredFrame := s.focus.measuredFrame, inBand := s.focus.inBand
                error := s.focus.error, position := s.focus.measuredPosition, sites := s.focus.inFocus
                centroid := s.focus.centroid } }
    (s.capture.state = .disarmed ∨ s.capture.state = .armed ∨ s.capture.state = .spent ∨
        (s.capture.state = .awaitingFocus ∧ ¬ rings) →
      frameStartCapture s = (s, none)) ∧
    (s.capture.state = .gathering ∨ (s.capture.state = .awaitingFocus ∧ rings) →
      (freeSlot s = none ∨ s.store.free.length < p.reserve →
        frameStartCapture s = ({ s with capture := { s.capture with skips := satInc s.capture.skips } }, none)) ∧
      (∀ slot, freeSlot s = some slot → p.reserve ≤ s.store.free.length →
        (frameStartCapture s).2 = some slot ∧
          shotAt (frameStartCapture s).1 slot = some (snapped (fresh slot n p true s)) ∧
          (frameStartCapture s).1.capture = { s.capture with ringExposing := some slot })) ∧
    (s.capture.state = .firing ∨ s.capture.state = .stalled →
      (s.capture.burstFrames % p.interval ≠ 0 → frameStartCapture s = (counted, none)) ∧
      (s.capture.burstFrames % p.interval = 0 → frameGate s p = false →
        frameStartCapture s = (missed fun b => { b with missedFocus := satInc16 b.missedFocus }, none)) ∧
      (s.capture.burstFrames % p.interval = 0 → frameGate s p = true →
        (freeSlot s = none →
          let t := missed fun b => { b with missedSlot := satInc16 b.missedSlot }
          frameStartCapture s =
            (if s.capture.state = .firing then
               raise .captureStall { t with capture := { t.capture with state := .stalled } }
             else t, none)) ∧
        (∀ slot, freeSlot s = some slot → s.store.free.length < p.reserve →
          let t := missed fun b => { b with missedSpace := satInc16 b.missedSpace }
          frameStartCapture s =
            (if s.capture.state = .firing then
               raise .captureStall { t with capture := { t.capture with state := .stalled } }
             else t, none)) ∧
        (∀ slot b, freeSlot s = some slot → p.reserve ≤ s.store.free.length → s.capture.log.getLast? = some b →
          let t := (frameStartCapture s).1
          (frameStartCapture s).2 = some slot ∧ t.capture.burstIndex = min (s.capture.burstIndex + 1) 65535 ∧
            shotAt t slot =
              some { snapped (fresh slot n p false s) with
                burst := some (b.number, min (s.capture.burstIndex + 1) 65535) } ∧
            (p.limit ≠ 0 ∧ satInc b.post = p.limit →
              t.capture.state = .spent ∧ ∃ e, t.capture.log.getLast? = some e ∧ e.post = p.limit ∧
                e.ended = some .limit) ∧
            (¬ (p.limit ≠ 0 ∧ satInc b.post = p.limit) →
              t.capture.state = .firing ∧ ∃ e, t.capture.log.getLast? = some e ∧ e.post = satInc b.post ∧
                e.ended = b.ended) ∧
            let record : BurstRecord :=
              { b with post := satInc b.post, first := some (b.first.getD s.store.nextNumber) }
            let a := (admitShot n p false counted).2
            let joined (st : CaptureState) (e : BurstRecord) : State :=
              { updShot slot
                  (fun x => { snapped x with burst := some (b.number, min (s.capture.burstIndex + 1) 65535) }) a with
                capture := { counted.capture with
                  state := st, burstIndex := min (s.capture.burstIndex + 1) 65535
                  log := updLast (fun _ => e) s.capture.log } }
            (p.limit ≠ 0 ∧ satInc b.post = p.limit →
              t = raise .burstEnd (joined .spent { record with ended := some .limit })) ∧
            (¬ (p.limit ≠ 0 ∧ satInc b.post = p.limit) → t = joined .firing record))))

/-- R31: a LINE part on a lane in use, with every lane usable and no other line begun: it waits for the other lanes,
and with the last part the line is taken, whole where every part has its share of the samples, which interleave by
lane; a part whose check fails is discarded and counted, and one from a source not selected or a lane not in use is
ignored. In general the lane monitor hears a part as it hears a filler sequence, LOCKED or LOST. A part of a lane that
is not usable is dropped; one of a lane that has contributed to a line begun first ends the lines begun as incomplete,
oldest first, until it has contributed to none. The oldest line begun is taken when every usable lane has delivered,
whole only where every lane in use is usable, then the next; with no usable lane the parts are dropped. The order of
the lines begun and the part on a LOST lane: the model's choice (notes/assumptions/12.md, 40.md). That the part of a
lane that is not usable is dropped: the model's choice (54.md). -/
def Obligations.LinePartsFormALine : Prop :=
  (∀ (lane : Fin 4) (number : Word16) (kind : LineKind) (samples : List Word16) (g : Geometry) (f : OpenFrame)
    (s : State),
    s.intake.source = .sensor → s.intake.geometry = some g → s.intake.frame = some f → f.geometry = g →
    lane.val < g.laneCount → (∀ k, k < g.laneCount → usableLane s k = true) →
    (∀ q ∈ s.intake.parts, q.number = number.toNat ∧ q.kind = kind ∧ q.lane ≠ lane.val) →
    let heard : State :=
      if s.control.opState = .run then
        { s with
          intake := { s.intake with
            lanes := updNth (fun l : Lane => { l with timer := some (s.intake.lossInterval * 4) }) lane.val
              s.intake.lanes } }
      else s
    let parts := s.intake.parts ++
      [{ lane := lane.val, number := number.toNat, kind, samples := samples.map fun v => v.toNat }]
    let whole : Prop := ∀ k, k < g.laneCount → g.laneCount * (shareOf parts k).length = g.samples
    ((∃ k, k < g.laneCount ∧ k ≠ lane.val ∧ ∀ q ∈ s.intake.parts, q.lane ≠ k) →
      exec (.line lane true number kind samples) s =
        .next { heard with intake := { heard.intake with parts } }) ∧
    ((∀ k, k < g.laneCount → k ≠ lane.val → ∃ q ∈ s.intake.parts, q.lane = k) →
      (whole →
        exec (.line lane true number kind samples) s =
          .next (takeLine kind number.toNat true
            (interleave (g.samples / g.laneCount) ((List.range g.laneCount).map (shareOf parts)))
            { heard with intake := { heard.intake with parts := [] } })) ∧
      (¬ whole →
        exec (.line lane true number kind samples) s =
          .next (takeLine kind number.toNat false [] { heard with intake := { heard.intake with parts := [] } })))) ∧
  (∀ (shares : List (List Nat)) (k i j : Nat), i < k → j < shares.length →
    (interleave k shares)[i * shares.length + j]? = some ((shares.getD j []).getD i 0)) ∧
  (∀ (lane : Fin 4) (number : Word16) (kind : LineKind) (samples : List Word16) (g : Geometry) (s : State),
    s.intake.source = .sensor → s.intake.geometry = some g → lane.val < g.laneCount →
    (laneAt s lane.val).locked = true →
    exec (.line lane false number kind samples) s =
      .next { s with
        intake := { s.intake with
          counters := { s.intake.counters with
            checkFail := updNth satInc lane.val s.intake.counters.checkFail } } }) ∧
  (∀ (lane : Fin 4) (number : Word16) (kind : LineKind) (samples : List Word16) (g : Geometry) (s u : State),
    s.intake.source = .sensor → s.intake.geometry = some g → lane.val < g.laneCount →
    exec (.fillerSequence lane) s = .next u →
    exec (.line lane true number kind samples) s =
      .next (takePart
        { lane := lane.val, number := number.toNat, kind, samples := samples.map fun v => v.toNat } u) ∧
    ((laneAt s lane.val).locked = false →
      exec (.line lane false number kind samples) s =
        .next { u with
          intake := { u.intake with
            counters := { s.intake.counters with
              checkFail := updNth satInc lane.val s.intake.counters.checkFail } } })) ∧
  (∀ (p : LinePart) (s : State),
    (usableLane s p.lane = false → takePart p s = s) ∧
    (usableLane s p.lane = true → (∀ q ∈ s.intake.parts, q.lane ≠ p.lane) →
      takePart p s =
        takeReady (s.intake.parts.length + 1) { s with intake := { s.intake with parts := s.intake.parts ++ [p] } }) ∧
    ∀ h rest, usableLane s p.lane = true → (∃ q ∈ s.intake.parts, q.lane = p.lane) → s.intake.parts = h :: rest →
      takePart p s =
        takePart p (takeLine h.kind h.number false []
          { s with
            intake := { s.intake with
              parts := rest.filter fun q => !decide (q.number = h.number ∧ q.kind = h.kind) } })) ∧
  (∀ (g : Geometry) (s : State), s.intake.geometry = some g → (∀ f, s.intake.frame = some f → f.geometry = g) →
    let again (t : State) : State := takeReady t.intake.parts.length t
    (s.intake.parts = [] → again s = s) ∧
    ∀ h rest, s.intake.parts = h :: rest →
      let left : State :=
        { s with
          intake := { s.intake with
            parts := rest.filter fun q => !decide (q.number = h.number ∧ q.kind = h.kind) } }
      let mine := (h :: rest).filter fun q => decide (q.number = h.number ∧ q.kind = h.kind)
      let awaits (k : Nat) : Prop := k < g.laneCount ∧ usableLane s k = true ∧ ∀ q ∈ mine, q.lane ≠ k
      let whole : Prop :=
        ∀ k, k < g.laneCount → usableLane s k = true ∧ g.laneCount * (shareOf mine k).length = g.samples
      ((∀ k, k < g.laneCount → usableLane s k = false) →
        again s = { s with intake := { s.intake with parts := [] } }) ∧
      ((∃ k, awaits k) → again s = s) ∧
      ((∃ k, k < g.laneCount ∧ usableLane s k = true) → (∀ k, ¬ awaits k) →
        (whole →
          again s =
            again (takeLine h.kind h.number true
              (interleave (g.samples / g.laneCount) ((List.range g.laneCount).map (shareOf mine))) left)) ∧
        (¬ whole → again s = again (takeLine h.kind h.number false [] left)))) ∧
  ∀ (lane : Fin 4) (ok : Bool) (number : Word16) (kind : LineKind) (samples : List Word16) (s : State),
    s.intake.source ≠ .sensor ∨ lanesInUse s ≤ lane.val →
    exec (.line lane ok number kind samples) s = .next s

/-- R35, R36, R40: a line taken in an open frame. Its number out of range, not above the last accepted of its kind, or
the line not whole, in this order, it is rejected and counted for the frame and the intake. An accepted phase line
goes to the focus engine with its index; an accepted image line is written behind the fill lines for the gap it shows,
at the end of the shot's RAW, and, with or without a shot, each of these lines goes to the live-view reducer where the
frame is reduced (R44); a fill line counts for the intake and, where it is stored, for the shot, which it damages. A
line that its pages do not hold takes one page at a time, of the reservation and then of the free list; a page refused
truncates the shot, and no further line of the frame is stored. Outside a frame a line is counted in RUN. R40, R41: a
packed line is its number, its fill mark, a zero and its items: without run coding, or without three equal samples in
a row, literal groups of 64, the last of the rest; with run coding each longest run of three or more is run items of
130, the rest another run item where it is three or more and otherwise among the literals that follow. The bits of a
literal group: sample by sample, the least significant bit first. A sample too large for the depth: the model's choice
(notes/assumptions/11.md); the packets in STANDBY: 27.md. -/
def Obligations.LinesAreCheckedFilledAndPacked : Prop :=
  let fillOf (f : OpenFrame) : List Nat := List.replicate f.geometry.samples f.geometry.fill
  let reduced (f : OpenFrame) (lines : List (List Nat)) : List (List Nat) :=
    if f.liveBuffer = none then f.reduced else f.reduced ++ lines
  (∀ (g : Geometry) (n : Nat) (isFill : Bool) (samples : List Nat),
    let items (l : List Nat) : List Byte := (lineBytes g n isFill l).drop 4
    let literals (l : List Nat) : List Byte :=
      [1, BitVec.ofNat 8 l.length] ++ le ((l.length * g.depth + 7) / 8) (l.foldr (fun v k => v + 2 ^ g.depth * k) 0)
    let run (v count : Nat) : List Byte := [2, BitVec.ofNat 8 count] ++ le 2 v
    lineBytes g n isFill samples = le 2 n ++ [if isFill then 1 else 0, 0] ++ items samples ∧
    (g.runCoding = false ∨ (∀ front v back, samples ≠ front ++ [v, v, v] ++ back) →
      ∃ (front : List (List Nat)) (last : List Nat), samples = front.flatten ++ last ∧ (∀ l ∈ front, l.length = 64) ∧
        last.length < 64 ∧
        items samples = (front.map literals).flatten ++ (if last = [] then [] else literals last)) ∧
    ∀ front v c back, g.runCoding = true → samples = front ++ List.replicate c v ++ back → 3 ≤ c →
      front.getLast? ≠ some v → back.head? ≠ some v →
      (c % 130 < 3 →
        items samples =
          items front ++ (List.replicate (c / 130) (run v 130)).flatten ++
            items (List.replicate (c % 130) v ++ back)) ∧
      (3 ≤ c % 130 →
        items samples =
          items front ++ (List.replicate (c / 130) (run v 130)).flatten ++ run v (c % 130) ++ items back)) ∧
  (∀ (kind : LineKind) (number : Nat) (whole : Bool) (samples : List Nat) (f : OpenFrame) (s : State),
    s.intake.frame = some f →
    let frameIs (g : OpenFrame) : State := { s with intake := { s.intake with frame := some g } }
    let count := s.intake.counters
    let listed : Prop := match kind with | .image => number < f.geometry.lines | .phase => number ∈ f.geometry.phaseLines
    let last := match kind with | .image => f.lastImage | .phase => f.lastPhase
    let above : Prop := ∀ k, last = some k → k < number
    (¬ listed →
      takeLine kind number whole samples s =
        { s with
          intake := { s.intake with
            frame := some { f with rejRange := satInc f.rejRange }
            counters := { count with rejRange := satInc count.rejRange } } }) ∧
    (listed → ¬ above →
      takeLine kind number whole samples s =
        { s with
          intake := { s.intake with
            frame := some { f with rejOrder := satInc f.rejOrder }
            counters := { count with rejOrder := satInc count.rejOrder } } }) ∧
    (listed → above → whole = false →
      takeLine kind number whole samples s =
        { s with
          intake := { s.intake with
            frame := some { f with rejIncomplete := satInc f.rejIncomplete }
            counters := { count with rejIncomplete := satInc count.rejIncomplete } } }) ∧
    (listed → above → whole = true → (∀ v ∈ samples, v < 2 ^ f.geometry.depth) →
      (kind = .phase →
        takeLine kind number whole samples s =
          frameIs { f with
            lastPhase := some number, staleTimer := some (s.intake.stalePeriod * 50)
            phases := f.phases ++ [(f.geometry.phaseLines.idxOf number, samples)] }) ∧
      (kind = .image → f.shot = none →
        let fills := number - nextLine f
        ∃ t, takeLine kind number whole samples s = t ∧
          t.intake.frame = some { f with
            lastImage := some number, staleTimer := some (s.intake.stalePeriod * 50), fills := f.fills + fills
            reduced := reduced f (List.replicate fills (fillOf f) ++ [samples]) } ∧
          t = { s with intake := t.intake } ∧ (fills = 0 → t.intake.counters = count)) ∧
      (∀ slot x, kind = .image → f.shot = some slot → f.truncated = false → shotAt s slot = some x →
        number = nextLine f →
        let bytes := lineBytes f.geometry number false samples
        rawPages (x.raw.length + bytes.length) ≤ x.raw.pages.length →
        takeLine kind number whole samples s =
          updShot slot (fun y => { y with raw := appendRaw bytes y.raw })
            (frameIs { f with
              lastImage := some number, lastStored := some number
              staleTimer := some (s.intake.stalePeriod * 50), reduced := reduced f [samples] })) ∧
      (kind = .image →
        let t := packLine false number samples (fillLines (nextLine f) (number - nextLine f) s)
        takeLine kind number whole samples s =
          { t with
            intake := { t.intake with
              frame := t.intake.frame.map fun g =>
                { g with
                  lastImage := some number, staleTimer := some (s.intake.stalePeriod * 50)
                  reduced := reduced g [samples] } } }))) ∧
  (∀ (n k : Nat) (f : OpenFrame) (s : State), s.intake.frame = some f →
    fillLines n 0 s = s ∧ fillLines n (k + 1) s = fillLines (n + 1) k (fillLine n s) ∧
      let t := packLine true n (fillOf f) s
      fillLine n s =
        { t with
          intake := { t.intake with
            frame := t.intake.frame.map fun g => { g with fills := g.fills + 1, reduced := reduced g [fillOf f] }
            counters := { t.intake.counters with fills := satInc t.intake.counters.fills } } }) ∧
  (∀ (isFill : Bool) (n : Nat) (samples : List Nat) (f : OpenFrame) (s : State), s.intake.frame = some f →
    (f.shot = none ∨ f.truncated = true → packLine isFill n samples s = s) ∧
    ∀ slot x, f.shot = some slot → f.truncated = false → shotAt s slot = some x →
      let bytes := lineBytes f.geometry n isFill samples
      let need := rawPages (x.raw.length + bytes.length)
      let filled (y : Shot) : Shot :=
        { y with filled := y.filled + 1, damaged := true, firstFilled := some (y.firstFilled.getD n) }
      let stored (y : Shot) : Shot := { y with raw := appendRaw bytes y.raw }
      (need ≤ x.raw.pages.length →
        packLine isFill n samples s =
          updShot slot (fun y => if isFill then filled (stored y) else stored y)
            { s with intake := { s.intake with frame := some { f with lastStored := some n } } }) ∧
      (x.raw.pages.length < need →
        (∀ t, takeRawPage slot s = some t → packLine isFill n samples s = packLine isFill n samples t) ∧
        (takeRawPage slot s = none →
          packLine isFill n samples s =
            updShot slot (fun y => { y with truncated := true, damaged := true })
              { s with
                intake := { s.intake with
                  frame := some { f with truncated := true }
                  counters := { s.intake.counters with truncated := satInc s.intake.counters.truncated } } }))) ∧
  (∀ (slot : Nat) (x : Shot) (s : State), shotAt s slot = some x →
    let takes (p : Nat) (y : Shot) : Shot := { y with raw := { y.raw with pages := y.raw.pages ++ [p] } }
    (96 ≤ x.raw.pages.length ∨ (x.reservation = [] ∧ s.store.free = []) → takeRawPage slot s = none) ∧
    (∀ p rest, x.raw.pages.length < 96 → x.reservation = p :: rest →
      takeRawPage slot s = some (updShot slot (fun y => { takes p y with reservation := rest }) s)) ∧
    (∀ p rest, x.raw.pages.length < 96 → x.reservation = [] → s.store.free = p :: rest →
      takeRawPage slot s = some (setFree rest (updShot slot (takes p) s)))) ∧
  ∀ (kind : LineKind) (number : Nat) (whole : Bool) (samples : List Nat) (s : State), s.intake.frame = none →
    (s.control.opState = .run →
      takeLine kind number whole samples s =
        { s with
          intake := { s.intake with
            counters := { s.intake.counters with outside := satInc s.intake.counters.outside } } }) ∧
    (s.control.opState = .standby → takeLine kind number whole samples s = s)

/-- R37, R38, R93: EMBEDDED data replaces the data held, cut to 256 bytes; FRAME_END closes the open frame NORMAL and
the stale timer's expiry STALE; outside a frame a packet is a stray, counted in RUN; a failed check is discarded and
counted. At a FRAME_END the lines begun are first taken as incomplete, in the order begun. The close fills the lines
still missing, which the reducer takes like any other, ends the frame, counts a kind other than NORMAL and damages the
shot by it, completes the shot's readout block and returns its reservation, completes the live frame, gives the focus
engine its measurement where a site table is loaded, lets capture control end the shot, and puts a waiting geometry in
force. The stale timer's expiry while it still has time to run, and where it does not run: the model's choice
(notes/assumptions/2.md, 3.md). On a LOST lane 0 the lane monitor first hears the packet as it hears a filler
sequence. The measurement joins those awaited, any number of them (16.md); the order of the lines begun, the packet of
a LOST lane, the packets in STANDBY, and the selections at the end: the model's choice (notes/assumptions/12.md,
40.md, 27.md, 17.md). -/
def Obligations.PacketsCloseTheFrame : Prop :=
  (∀ (data : List Byte) (g : Geometry) (s : State), s.intake.source = .sensor → s.intake.geometry = some g →
    1 ≤ g.laneCount → (laneAt s 0).locked = true →
    let count := s.intake.counters
    let lanes :=
      if s.control.opState = .run then
        updNth (fun l : Lane => { l with timer := some (s.intake.lossInterval * 4) }) 0 s.intake.lanes
      else s.intake.lanes
    let heard : State := { s with intake := { s.intake with lanes } }
    let stray : State := { s with intake := { s.intake with lanes, counters := { count with stray := satInc count.stray } } }
    let failed : State :=
      { s with intake := { s.intake with counters := { count with checkFail := updNth satInc 0 count.checkFail } } }
    exec (.embedded false data) s = .next failed ∧ exec (.frameEnd false) s = .next (settle failed) ∧
    (∀ f, s.intake.frame = some f →
      exec (.embedded true data) s =
        .next { s with intake := { s.intake with lanes, frame := some { f with embedded := data.take 256 } } } ∧
      exec (.frameEnd true) s = .next (settle (closeFrame .normal (flushAll heard)))) ∧
    (s.intake.frame = none →
      (s.control.opState = .run → exec (.embedded true data) s = .next stray) ∧
      (s.control.opState = .standby → exec (.embedded true data) s = .next s) ∧
      (s.intake.parts = [] → s.control.opState = .run → exec (.frameEnd true) s = .next (settle stray)) ∧
      (s.intake.parts = [] → s.control.opState = .standby → exec (.frameEnd true) s = .next (settle s)) ∧
      (s.control.opState = .run →
        let t := flushAll heard
        exec (.frameEnd true) s =
          .next (settle { t with
            intake := { t.intake with
              counters := { t.intake.counters with stray := satInc t.intake.counters.stray } } })))) ∧
  (∀ (data : List Byte) (g : Geometry) (s u : State), s.intake.source = .sensor → s.intake.geometry = some g →
    1 ≤ g.laneCount → exec (.fillerSequence 0) s = .next u →
    let failed : State :=
      { u with
        intake := { u.intake with
          counters := { s.intake.counters with checkFail := updNth satInc 0 s.intake.counters.checkFail } } }
    exec (.embedded true data) s = .next (takeEmbedded data u) ∧
      exec (.frameEnd true) s = .next (settle (takeFrameEnd u)) ∧
      ((laneAt s 0).locked = false →
        exec (.embedded false data) s = .next failed ∧ exec (.frameEnd false) s = .next (settle failed))) ∧
  (∀ (data : List Byte) (s : State),
    let stray (t : State) : State :=
      if s.control.opState = .run then
        { t with
          intake := { t.intake with
            counters := { t.intake.counters with stray := satInc t.intake.counters.stray } } }
      else t
    (s.intake.frame = none → takeEmbedded data s = stray s ∧ takeFrameEnd s = stray (flushAll s)) ∧
    ∀ f, s.intake.frame = some f →
      takeEmbedded data s = { s with intake := { s.intake with frame := some { f with embedded := data.take 256 } } } ∧
        takeFrameEnd s = closeFrame .normal (flushAll s)) ∧
  (∀ s : State,
    (s.intake.parts = [] → flushAll s = s) ∧
    ∀ p rest, s.intake.parts = p :: rest →
      flushAll s =
        flushAll (takeLine p.kind p.number false []
          { s with
            intake := { s.intake with
              parts := rest.filter fun q => !decide (q.number = p.number ∧ q.kind = p.kind) } })) ∧
  (∀ s : State,
    (∀ f k, s.intake.frame = some f → f.staleTimer = some k →
      exec .staleTimerExpiry s = .next (settle (closeFrame .stale (elapse k s)))) ∧
    ((∀ f, s.intake.frame = some f → f.staleTimer = none) → exec .staleTimerExpiry s = .next s)) ∧
  ∀ (kind : CloseKind) (f : OpenFrame) (s : State), s.intake.frame = some f →
    let missing := f.geometry.lines - nextLine f
    let filled := fillLines (nextLine f) missing s
    ∃ g, filled.intake.frame = some g ∧
      g = { f with
        fills := f.fills + missing, truncated := g.truncated, lastStored := g.lastStored
        reduced :=
          if f.liveBuffer = none then f.reduced
          else f.reduced ++ List.replicate missing (List.replicate f.geometry.samples f.geometry.fill) } ∧
      let count := filled.intake.counters
      let closed : State :=
        { filled with
          intake := { filled.intake with
            frame := none
            counters := if kind = .normal then count else { count with abnormal := satInc count.abnormal } } }
      let measured (t : State) : State :=
        if t.focus.sites = [] then t
        else
          { t with
            focus := { t.focus with
              awaited := t.focus.awaited ++
                [{ counter := f.counter, phases := f.phases, phaseLines := f.geometry.phaseLines,
                   samples := f.geometry.samples, sites := t.focus.sites }] } }
      let read (x : Shot) : Shot :=
        { x with damaged := x.damaged || kind != .normal, readout := some (readoutOf g kind x) }
      let inForce (t : State) : State :=
        match s.intake.waitingGeometry with
        | none => t
        | some table => applyGeometry table t
      (f.liveBuffer = none → ∀ t, completeLive g kind t = t) ∧
      (f.shot = none → closeFrame kind s = inForce (measured (completeLive g kind closed))) ∧
      ∀ slot, f.shot = some slot →
        closeFrame kind s =
          inForce (frameEndCapture slot
            (measured (completeLive g kind (returnReservation slot (updShot slot read closed)))))

/-- R66, R11, R63, R64, R18, R8, R135, R140: at frame end RAW is READY; a numbered shot gets its duties from the
routing table's entry for its class, in the order CARD_A, CARD_B, DESK and in each RAW, DEV, PRV; a provisional shot
joins the ring, from which a full ring first discards the oldest, or is discarded where it no longer belongs to it. A
DEV or PRV with an OWED duty is PENDING, and the shot OPEN where a duty is OWED, otherwise SETTLED. The card slots
take the duties as they are made. Where redirect applies each OWED CARD_A duty is WAIVED REDIRECTED, and a rendition
without a CARD_B duty first gets one at the end of the list, created now, OWED, or FAILED CARD_FAULT where slot B is
in FAULT; without redirect the OWED CARD_A duties of a slot A in FAULT are FAILED CARD_FAULT, and so are the OWED
CARD_B duties of a slot B in FAULT. -/
def Obligations.FrameEndCreatesDuties : Prop :=
  (∀ (slot : Nat) (x : Shot) (s : State), shotAt s slot = some x →
    let ready := updShot slot (fun y => { y with raw := { y.raw with state := .ready } }) s
    let held (t : State) : State :=
      let u := updShot slot (fun y => { y with state := .held }) t
      { u with capture := { u.capture with ring := u.capture.ring ++ [slot], ringExposing := none } }
    (x.provisional = false → frameEndCapture slot s = createDuties slot ready) ∧
    (x.provisional = true → s.capture.ringExposing ≠ some slot → frameEndCapture slot s = discardShot slot ready) ∧
    (x.provisional = true → s.capture.ringExposing = some slot →
      (s.capture.ring = [] ∨ s.capture.ring.length < ringDepth s → frameEndCapture slot s = held ready) ∧
      (∀ oldest rest, s.capture.ring = oldest :: rest → ringDepth s ≤ s.capture.ring.length →
        let t := discardShot oldest ready
        frameEndCapture slot s =
          held { t with capture := { t.capture with ring := rest, discards := satInc t.capture.discards } }))) ∧
  (∀ (slot : Nat) (x : Shot) (e : ClassEntry) (s : State), shotAt s slot = some x →
    s.store.routing.map (fun t => t.getD x.cls emptyEntry) = some e →
    let now := s.control.timeBase
    let owed (d : Dest) (r : Rendition) : Duty :=
      let waives := x.damaged = true ∧ (e.policy = .discard ∨ (e.policy = .noDesk ∧ d = .desk))
      { dest := d, rend := r, state := if waives then .waived else .owed
        reason := if waives then some .damaged else none, created := now
        expiry := if d = .desk ∧ e.lifetime ≠ 0 then some (now + e.lifetime * 60000000) else none }
    let routed :=
      (rendList e.cardA).map (owed .cardA) ++ (rendList e.cardB).map (owed .cardB) ++ (rendList e.desk).map (owed .desk)
    let duties := cardTaken s routed
    let pends (r : Rendition) (k : Rend) : Rend :=
      if k.state = .absent ∧ ∃ y ∈ duties, y.rend = r ∧ y.state = .owed then { k with state := .pending } else k
    let y : Shot := { x with duties, dev := pends .dev x.dev, prv := pends .prv x.prv }
    let open_ : Prop := (∃ z ∈ duties, z.state = .owed) ∨ y.dev.state = .pending ∨ y.prv.state = .pending
    ∃ z, ((open_ → z = { y with state := .opened }) ∧ (¬ open_ → z = { y with state := .settled })) ∧
      createDuties slot s =
        retireTest slot (readyTest slot .raw
          (if z.dev.state = .pending ∨ z.prv.state = .pending then joinQueue slot (updShot slot (fun _ => z) s)
           else updShot slot (fun _ => z) s))) ∧
  ∀ (ds : List Duty) (s : State),
    let taken (y : Duty) : Duty :=
      if y.dest = .cardA ∧ y.state = .owed ∧ redirecting s = true then
        { y with state := .waived, reason := some .redirected }
      else if y.dest = .cardA ∧ y.state = .owed ∧ s.cardA.state = .fault then
        { y with state := .failed, reason := some .cardFault }
      else if y.dest = .cardB ∧ y.state = .owed ∧ s.cardB.state = .fault then
        { y with state := .failed, reason := some .cardFault }
      else y
    let added (r : Rendition) : Duty :=
      { dest := .cardB, rend := r, state := if s.cardB.state = .fault then .failed else .owed
        reason := if s.cardB.state = .fault then some .cardFault else none, created := s.control.timeBase
        expiry := none }
    let needsB (r : Rendition) : Bool :=
      (ds.any fun y => y.dest == .cardA && y.rend == r && y.state == .owed) &&
        !(ds.any fun y => y.dest == .cardB && y.rend == r)
    (redirecting s = true ↔
      s.cardMode = .overflow ∧
        (s.cardA.state = .full ∨ s.cardA.state = .fault ∨ s.cardA.state = .empty ∨ s.cardA.state = .writeProtected ∨
          s.cardA.state = .off)) ∧
    (redirecting s = true →
      cardTaken s ds = ds.map taken ++ (([.raw, .dev, .prv] : List Rendition).filter needsB).map added) ∧
    (redirecting s = false → cardTaken s ds = ds.map taken) ∧
    (redirecting s = false → s.cardA.state ≠ .fault → s.cardB.state ≠ .fault → cardTaken s ds = ds) ∧
    (redirecting s = true →
      (∀ y ∈ cardTaken s ds, y.dest = .cardA → y.state ≠ .owed) ∧
      ∀ y ∈ ds, y.dest = .cardA → y.state = .owed → ∃ z ∈ cardTaken s ds, z.dest = .cardB ∧ z.rend = y.rend) ∧
    (redirecting s = false → s.cardA.state = .fault → ∀ y ∈ cardTaken s ds, y.dest = .cardA → y.state ≠ .owed) ∧
    (s.cardB.state = .fault → ∀ y ∈ cardTaken s ds, y.dest = .cardB → y.state ≠ .owed)

/-- R32, R33: the lane monitors run in RUN with source SENSOR. A sequence on a LOCKED lane in use reloads its loss
timer, on a LOST one the lane is LOCKED again and LANE_LOCKED latches; at the loss timer's expiry the lane is LOST and
LANE_LOST latches, and the lines begun that awaited it alone are taken (their order: notes/assumptions/12.md).
Otherwise nothing changes. A geometry table that takes effect leaves the lanes where their number stays, and otherwise
makes those that leave or enter use LOST. The expiry while the timer still has time to run, and where it does not run:
the model's choice (notes/assumptions/2.md, 3.md). Any sequence re-locks a lane: notes/assumptions/13.md. -/
def Obligations.LaneMonitorsLoseAndRelock : Prop :=
  ∀ (lane : Fin 4) (s : State),
    let setLane (f : Lane → Lane) (t : State) : State :=
      { t with intake := { t.intake with lanes := updNth f lane.val t.intake.lanes } }
    let full := some (s.intake.lossInterval * 4)
    let monitored : Prop := s.intake.source = .sensor ∧ s.control.opState = .run ∧ lane.val < lanesInUse s
    (monitored →
      ((laneAt s lane.val).locked = true →
        exec (.fillerSequence lane) s = .next (setLane (fun l => { l with timer := full }) s) ∧
        (∀ k, (laneAt s lane.val).timer = some k → s.intake.parts = [] →
          exec (.lossTimerExpiry lane) s =
            .next (raise (.laneLost lane.val)
              (setLane (fun _ => { locked := false, usable := false, timer := none }) (elapse k s)))) ∧
        (∀ k, (laneAt s lane.val).timer = some k →
          exec (.lossTimerExpiry lane) s =
            .next (takeReady s.intake.parts.length
              (raise (.laneLost lane.val)
                (setLane (fun _ => { locked := false, usable := false, timer := none }) (elapse k s))))) ∧
        ((laneAt s lane.val).timer = none → exec (.lossTimerExpiry lane) s = .next s)) ∧
      ((laneAt s lane.val).locked = false →
        exec (.fillerSequence lane) s =
          .next (raise (.laneLocked lane.val) (setLane (fun l => { l with locked := true, timer := full }) s)) ∧
        exec (.lossTimerExpiry lane) s = .next s)) ∧
    (¬ monitored → exec (.fillerSequence lane) s = .next s ∧ exec (.lossTimerExpiry lane) s = .next s) ∧
    ∀ g : Geometry,
      let t := applyGeometry g s
      t = { s with intake := { s.intake with geometry := some g, waitingGeometry := none, lanes := t.intake.lanes } } ∧
        (lanesInUse s = g.laneCount → t.intake.lanes = s.intake.lanes) ∧
        (lanesInUse s ≠ g.laneCount →
          laneAt t lane.val =
            if lane.val < lanesInUse s ∧ lane.val < g.laneCount then laneAt s lane.val
            else { locked := false, usable := false, timer := none })

/-- R46 to R49: SRCS. A source or pattern kind that is not listed, and a flat value or interval out of range, are
BADARG. The source and settings in effect change nothing; another choice closes an open frame SOURCE and takes effect,
the pattern generator starting afresh where it was not the source and otherwise keeping its frame counter, a new
interval running from the acceptance, and the lane monitors stopping and starting with the sensor. A pattern tick in
RUN without an open frame delivers one whole frame, its lines in order, each with its phase line where one is listed,
of the samples of RAMP, BARS or FLAT. An INJECT unit is discarded under another source; its packets FRAME_START, LINE,
EMBEDDED and FRAME_END are taken in order as the sensor's, a packet of another form is skipped, one that runs past the
end ends the unit, and a unit with a part it cannot read is counted malformed. The tick while its timer still has time
to run, and where it does not run; the whole frame in one step; the first tick of a source that becomes PATTERN, a
whole interval after the acceptance (59.md); the order of the arguments of SRCS; a rest of fewer than 6 bytes in a
unit; and the selections at the end: the model's choice (notes/assumptions/2.md, 3.md, 24.md, 5.md, 41.md, 17.md).
R49: the answer of an accepted SRCS carries the intake status, with every field of it as it stands; its layout:
6.md. -/
def Obligations.SourcesFeedTheAssembler : Prop :=
  (∀ (c : Cell) (s : State), FrontInRun .host codeSRCS c s →
    let base := closeFrame .source (taken .host s)
    let reply (t : State) :=
      Host.Outcome.next (φ := Fault) (ρ := Refusal) (answer .host c .done (.intake (intakeStatus t)) t)
    let still := base.intake.lanes.map fun l => { l with timer := none }
    (s.intake.frame = none → base = taken .host s) ∧
    (c.fields = [] ∨ (∃ v rest, c.fields = v :: rest ∧ 3 ≤ v) →
      exec (.srcs .host) s = .next (answerBare .host c .badarg (taken .host s))) ∧
    (c.fields = [0] →
      (s.intake.source = .sensor → exec (.srcs .host) s = reply (taken .host s)) ∧
      (s.intake.source ≠ .sensor →
        exec (.srcs .host) s =
          reply (settle { base with
            intake := { base.intake with
              source := .sensor, parts := [], patternTimer := none
              lanes := base.intake.lanes.map fun l =>
                { l with timer := if l.locked then some (s.intake.lossInterval * 4) else none } } }))) ∧
    (c.fields = [2] →
      (s.intake.source = .inject → exec (.srcs .host) s = reply (taken .host s)) ∧
      (s.intake.source ≠ .inject →
        exec (.srcs .host) s =
          reply (settle { base with
            intake := { base.intake with source := .inject, parts := [], patternTimer := none, lanes := still } }))) ∧
    (∀ k flat interval, c.fields = [1, k, flat, interval] → 3 ≤ k →
      exec (.srcs .host) s = .next (answerBare .host c .badarg (taken .host s))) ∧
    ∀ k kind flat interval g, c.fields = [1, k, flat, interval] → patternOfCode k = some kind →
      s.intake.geometry = some g →
      (2 ^ g.depth - 1 < flat ∨ interval < 5 ∨ 1000 < interval →
        exec (.srcs .host) s = .next (answerBare .host c .badarg (taken .host s))) ∧
      (flat ≤ 2 ^ g.depth - 1 → 5 ≤ interval → interval ≤ 1000 →
        (s.intake.source ≠ .pattern →
          exec (.srcs .host) s =
            reply (settle { base with
              intake := { base.intake with
                source := .pattern, patternKind := kind, flat, interval, patternCounter := 0, parts := []
                patternTimer := some (interval * 1000), lanes := still } })) ∧
        (s.intake.source = .pattern →
          let same : Prop := s.intake.patternKind = kind ∧ s.intake.flat = flat ∧ s.intake.interval = interval
          (same → exec (.srcs .host) s = reply (taken .host s)) ∧
          (¬ same →
            exec (.srcs .host) s =
              reply (settle { base with
                intake := { base.intake with
                  patternKind := kind, flat, interval, patternCounter := s.intake.patternCounter, parts := []
                  patternTimer :=
                    if s.intake.interval = interval then s.intake.patternTimer else some (interval * 1000)
                  lanes := still } }))))) ∧
  (∀ s : State,
    (s.intake.patternTimer = none → exec .patternTick s = .next s) ∧
    ∀ k, s.intake.patternTimer = some k →
      let u := elapse k s
      let ticked : State := { u with intake := { u.intake with patternTimer := some (s.intake.interval * 1000) } }
      let next := (s.intake.patternCounter + 1) % 65536
      (s.intake.frame ≠ none ∨ s.intake.geometry = none → exec .patternTick s = .next (settle ticked)) ∧
      (s.intake.frame = none → s.intake.geometry ≠ none → s.control.opState = .standby →
        exec .patternTick s =
          .next (settle { ticked with intake := { ticked.intake with patternCounter := next } })) ∧
      (s.intake.frame = none → s.intake.geometry ≠ none → s.control.opState = .run → s.intake.parts = [] →
        ∃ t, exec .patternTick s = .next (settle t) ∧ t.intake.frame = none ∧ t.intake.patternCounter = next ∧
          t.intake.patternTimer = some (s.intake.interval * 1000) ∧
          t.intake.counters.opened = satInc s.intake.counters.opened ∧
          t.intake.counters.abnormal = s.intake.counters.abnormal ∧
          t.intake.counters.fills = s.intake.counters.fills) ∧
      ∀ g, s.intake.frame = none → s.intake.geometry = some g → s.control.opState = .run →
        let value (column : Nat) : Nat :=
          match s.intake.patternKind with
          | .flat => s.intake.flat
          | .ramp => column * 2 ^ g.depth / g.samples
          | .bars => 8 * column / g.samples * (2 ^ g.depth - 1) / 7
        let samples := (List.range g.samples).map value
        let line (v : State) (n : Nat) : State :=
          let w := takeLine .image n true samples v
          if n ∈ g.phaseLines then takeLine .phase n true samples w else w
        let t := takeFrameEnd ((List.range g.lines).foldl line (takeFrameStart s.intake.patternCounter ticked))
        exec .patternTick s = .next (settle { t with intake := { t.intake with patternCounter := next } })) ∧
  (∀ (fuel : Nat) (kind lineKind : Byte) (body rest : List Byte) (s : State), body.length < 2 ^ 32 →
    let count := readLe ((body.drop 2).take 2)
    let samples (n : Nat) : List Nat := (List.range n).map fun i => readLe ((body.drop (4 + 2 * i)).take 2)
    let formed : Prop :=
      (kind = 1 ∧ body.length = 2) ∨
        (kind = 2 ∧ (lineKind = 0 ∨ lineKind = 1) ∧ 4 ≤ body.length ∧ body.length = 4 + 2 * count) ∨
        (kind = 3 ∧ body ≠ []) ∨ kind = 4
    let took : State :=
      if kind = 1 then takeFrameStart (readLe body) s
      else if kind = 3 then takeEmbedded body s
      else if kind = 4 then takeFrameEnd s
      else
        takeLine (if lineKind = 0 then .image else .phase) (readLe (body.take 2))
          (match s.intake.frame with
           | none => true
           | some f => count == f.geometry.samples)
          (samples count) s
    let unit (n : Nat) : List Byte := [kind, lineKind] ++ le 4 n
    (formed → injectPackets (fuel + 1) (unit body.length ++ body ++ rest) s = injectPackets fuel rest took) ∧
    (¬ formed →
      injectPackets (fuel + 1) (unit body.length ++ body ++ rest) s = ((injectPackets fuel rest s).1, true)) ∧
    (∀ n, body.length < n → n < 2 ^ 32 → injectPackets (fuel + 1) (unit n ++ body) s = (s, true)) ∧
    (1 ≤ body.length → body.length < 6 → injectPackets (fuel + 1) body s = (s, true)) ∧
    injectPackets fuel [] s = (s, false)) ∧
  (∀ (g : Geometry) (s : State), s.intake.geometry = some g →
    let i := s.intake
    intakeStatus s =
      { source := i.source
        pattern := if i.source = .pattern then some (i.patternKind, i.flat, i.interval) else none
        inFrame := i.frame.isSome, lanes := (i.lanes.take g.laneCount).map fun l => l.locked
        laneCount := g.laneCount, lines := g.lines, samples := g.samples, buffer0 := i.buffer0.state
        buffer1 := i.buffer1.state, nextLive := i.nextLive, counters := i.counters }) ∧
  ∀ (payload : List Byte) (s : State),
    let count := s.intake.counters
    (s.pins.hostUp = true → 1 ≤ payload.length → payload.length ≤ 65536 → s.intake.source = .inject →
      let t := (injectPackets payload.length payload s).1
      exec (.injectUnit payload) s =
        .next (settle
          (if (injectPackets payload.length payload s).2 then
             { t with
               intake := { t.intake with
                 counters := { t.intake.counters with injectMalformed := satInc t.intake.counters.injectMalformed } } }
           else t))) ∧
    (s.pins.hostUp = false → exec (.injectUnit payload) s = .next s) ∧
    (s.pins.hostUp = true → payload.length = 0 ∨ 65536 < payload.length →
      exec (.injectUnit payload) s =
        .next (updCounters .host (fun k => { k with malformed := satInc k.malformed }) s)) ∧
    (s.pins.hostUp = true → 1 ≤ payload.length → payload.length ≤ 65536 →
      (s.intake.source ≠ .inject →
        exec (.injectUnit payload) s =
          .next (settle { s with
            intake := { s.intake with counters := { count with injectDiscarded := satInc count.injectDiscarded } } })) ∧
      (s.intake.source = .inject →
        (payload.length < 6 →
          exec (.injectUnit payload) s =
            .next (settle { s with
              intake := { s.intake with
                counters := { count with injectMalformed := satInc count.injectMalformed } } })) ∧
        (∀ lineKind a b, payload = [1, lineKind, 2, 0, 0, 0, a, b] →
          exec (.injectUnit payload) s = .next (settle (takeFrameStart (a.toNat + 256 * b.toNat) s))) ∧
        (∀ lineKind, payload = [4, lineKind, 0, 0, 0, 0] →
          exec (.injectUnit payload) s = .next (settle (takeFrameEnd s))) ∧
        (∀ lineKind data, data ≠ [] → payload = [3, lineKind] ++ le 4 data.length ++ data →
          exec (.injectUnit payload) s = .next (settle (takeEmbedded data s)))))

/-- R44, R45, R161: a live frame completes in the buffer it was reduced into: with the host link up and no other frame
SENDING it becomes SENDING, otherwise it WAITS in place of a frame that waited, which is dropped. In BOUND with the
mirror on it also takes the mirror buffer, a frame held there dropped. The host link takes a SENDING frame in units of
at most 65,536 bytes behind the bulk header and the live descriptor (10 section 10.2), and after the last the buffer
is FREE and a WAITING frame is sent. R44: a live frame is damaged where its frame closed other than NORMAL or with a
fill line, and names its shot's number, none for a provisional shot or no shot. R177: with a part reset awaited the
answer leaves before the unit, and the part returns to its reset state as at POWER_ON (notes/assumptions/19.md).
LIVE_UNIT_TAKEN with nothing SENDING or the host link down changes nothing, and a live frame without a pixel is not
sent: the model's choice (3.md, 20.md). R44: a live frame is reduced by 2, 4 or 8 and holds the samples of the whole
blocks; each pixel is three bytes made of its factor x factor block of samples. What a block gives, and the order of
the pixels: the model's choice (11.md, 53.md). -/
def Obligations.LiveFramesAreSentOrDropped : Prop :=
  let pixelByte (m : LiveImage) (offset : Nat) : Byte :=
    let row := offset / 3 / m.width
    let column := offset / 3 % m.width
    let lines := (m.lines.drop (row * m.factor)).take m.factor
    Config.livePixelByte m.depth (lines.map fun l => (l.drop (column * m.factor)).take m.factor) row column (offset % 3)
  (∀ (m : LiveImage) (offset : Nat), liveByte m offset = pixelByte m offset) ∧
  (∀ s : State,
    (s.pins.hostUp = true → s.control.resetAwaited = true →
      (∃ n f, bufferIn s .sending = some n ∧ (buffer s n).frame = some f) →
      exec .liveUnitTaken s = exec (.powerOn s.pins) s) ∧
    (s.pins.hostUp = false ∨ (s.intake.buffer0.state ≠ .sending ∧ s.intake.buffer1.state ≠ .sending) →
      exec .liveUnitTaken s = .next s) ∧
    ∀ n f, s.pins.hostUp = true → s.control.resetAwaited = false → bufferIn s .sending = some n →
      (buffer s n).frame = some f →
      let payload := (List.range (min 65536 (f.total - f.sent))).map fun i => pixelByte f.image (f.sent + i)
      let flags := (if f.damaged then 1 else 0) + (if f.number = none then 0 else 2)
      let descriptor :=
        le 4 f.sequence ++ le 2 f.counter ++ [BitVec.ofNat 8 flags, BitVec.ofNat 8 f.image.factor] ++
          le 4 (f.number.getD 0) ++ le 2 f.image.width ++ le 2 f.height ++ le 4 f.sent ++ le 4 f.total
      let unit := [19, 0, 0, 0] ++ le 4 payload.length ++ descriptor ++ payload
      let took : State := { s with control := { s.control with ready := [], lastTaken := some unit } }
      descriptor.length = 24 ∧
      (f.sent + 65536 < f.total →
        exec .liveUnitTaken s =
          .next (setBuffer n { state := .sending, frame := some { f with sent := f.sent + 65536 } } took)) ∧
      (f.total ≤ f.sent + 65536 →
        exec .liveUnitTaken s =
          .next (sendWaiting (setBuffer n { state := .free, frame := none } took)))) ∧
  ∀ (f : OpenFrame) (kind : CloseKind) (n : Nat) (s : State), f.liveBuffer = some n → n ≤ 1 →
    let live := liveFrameOf f kind s
    let next := if s.intake.nextLive < 4294967295 then s.intake.nextLive + 1 else 1
    let dropped := s.tether.counters.mirrorDropped
    let mirrored : State :=
      { s with
        tether := { s.tether with
          mirror :=
            if live.total = 0 then none
            else some { sequence := live.sequence, image := live.image, total := live.total, sent := 0 }
          counters := { s.tether.counters with
            mirrorDropped := if s.tether.mirror = none then dropped else satInc dropped } } }
    let offered : State := if s.tether.link = .bound ∧ s.tether.mirrorOn = true then mirrored else s
    let numbered : State := { offered with intake := { s.intake with nextLive := next } }
    live.sequence = s.intake.nextLive ∧ live.counter = f.counter ∧ live.sent = 0 ∧
    live.damaged = (kind != .normal || f.fills != 0) ∧ (f.shot = none → live.number = none) ∧
    (∀ slot x, f.shot = some slot → shotAt s slot = some x →
      live.number = if x.provisional then none else x.number) ∧
    live.image.factor =
      (if f.geometry.samples ≤ 3072 ∧ f.geometry.lines ≤ 2048 then 2
       else if f.geometry.samples ≤ 6144 ∧ f.geometry.lines ≤ 4096 then 4 else 8) ∧
    live.image.width = f.geometry.samples / live.image.factor ∧
    live.height = f.geometry.lines / live.image.factor ∧ live.total = live.image.width * live.height * 3 ∧
    live.image.depth = f.geometry.depth ∧
    live.image.lines =
      (f.reduced.take (live.height * live.image.factor)).map (fun l => l.take (live.image.width * live.image.factor)) ∧
    (live.total = 0 → completeLive f kind s = setBuffer n { state := .free, frame := none } numbered) ∧
    (live.total ≠ 0 →
      (s.pins.hostUp = true → s.intake.buffer0.state ≠ .sending → s.intake.buffer1.state ≠ .sending →
        completeLive f kind s = setBuffer n { state := .sending, frame := some live } numbered) ∧
      (s.pins.hostUp = false ∨ s.intake.buffer0.state = .sending ∨ s.intake.buffer1.state = .sending →
        ((buffer s (1 - n)).state = .waiting →
          completeLive f kind s =
            setBuffer n { state := .waiting, frame := some live }
              (countDropped (setBuffer (1 - n) { state := .free, frame := none } numbered))) ∧
        ((buffer s (1 - n)).state ≠ .waiting →
          completeLive f kind s = setBuffer n { state := .waiting, frame := some live } numbered)))

/-! ## Lens (04) -/

/-- R70, R71, R72, R75, R88, R89: attachment, where LENS_ATTACHED is raised, and a probe's start, its four nibbles
high first, and its completion: no lens has identity 65,535 (NODRIVE, and LENS_NODRIVE is raised), any other is
IDENTIFIED through the alias table and asked for its capabilities. LPRB and the re-probe timer start the same probe;
detach clears the controller and LENS_DETACHED is raised. The expiry while the timer still has time to run, and where
it does not run: the model's choice (notes/assumptions/2.md, 3.md). So are the select lines after a detach, and the
gate test and selection at the end (42.md, 17.md). R89, R90: the answer of LPRB carries the lens status, with every
field of it as it stands; its layout: 6.md. -/
def Obligations.LensIsAttachedProbedAndDetached : Prop :=
  let probing (s : State) (t : State) : Prop :=
    t.lens.state = .probing ∧ t.lens.select = 3 ∧ t.lens.phase = 0 ∧ t.lens.nibbles = 0 ∧ t.lens.settleTimer = some 20 ∧
      t.lens.contract = none ∧ t.lens.report = none ∧ t.lens.position = none ∧ t.lens.aperture = 0 ∧
      t.lens.outstanding = none ∧ t.lens.answerTimer = none ∧ t.lens.waitTimer = none ∧ t.lens.driveTimer = none ∧
      t.lens.reprobeTimer = none ∧ t.lens.counters.probes = satInc s.lens.counters.probes ∧
      t.lens.profiles = s.lens.profiles ∧ t.lens.aliases = s.lens.aliases ∧
      t.focus = { s.focus with sentTarget := none, queuedTarget := none, counters := t.focus.counters }
  (∀ s : State,
    (s.pins.lensPresent = true → exec .lensPresentAsserted s = .next s) ∧
    (s.pins.lensPresent = false → exec .lensPresentNegated s = .next s) ∧
    (s.pins.lensPresent = false →
      ∃ t, exec .lensPresentAsserted s = .next t ∧ probing s t ∧ t.lens.faultCount = 0 ∧
        Finishes { s with pins := { s.pins with lensPresent := true }, lens := t.lens, focus := t.focus } t ∧
        t = finish (raise .lensAttached
          { s with pins := { s.pins with lensPresent := true }, lens := t.lens, focus := t.focus })) ∧
    (s.pins.lensPresent = true →
      ∃ t, exec .lensPresentNegated s = .next t ∧
        Finishes { s with pins := { s.pins with lensPresent := false }, lens := t.lens, focus := t.focus } t ∧
        t = finish (raise .lensDetached
          { s with pins := { s.pins with lensPresent := false }, lens := t.lens, focus := t.focus }) ∧
        t.lens =
          { s.lens with
            state := .absent, sensed := none, profileId := none, profile := none, report := none, contract := none
            inFlight := none, queued := none, position := none, aperture := 0, faultCount := 0, outstanding := none
            misses := 0, settleTimer := none, answerTimer := none, waitTimer := none, driveTimer := none
            reprobeTimer := none } ∧
        t.focus = { s.focus with sentTarget := none, queuedTarget := none }) ∧
    (∀ k, s.lens.reprobeTimer = some k →
      ∃ t, exec .reprobeTimerExpiry s = .next t ∧ probing s t ∧ t.lens.faultCount = s.lens.faultCount + 1 ∧
        Finishes { elapse k s with lens := t.lens, focus := t.focus } t) ∧
    (s.lens.reprobeTimer = none → exec .reprobeTimerExpiry s = .next s)) ∧
  (∀ (c : Cell) (s : State), FrontInRun .host codeLPRB c s →
    (s.pins.lensPresent = false → exec (.lprb .host) s = .next (answerBare .host c .state (taken .host s))) ∧
    (s.pins.lensPresent = true →
      ∃ t, exec (.lprb .host) s = .next (finish (answer .host c .done (.lens (lensStatus t)) t)) ∧ probing s t ∧
        t.lens.faultCount = 0 ∧ t.lens.inFlight = none ∧ t.lens.queued = none ∧
        t.lens.counters.aborts =
          (if s.lens.inFlight = none then s.lens.counters.aborts else satInc s.lens.counters.aborts) ∧
        t = { taken .host s with lens := t.lens, focus := t.focus })) ∧
  (∀ s : State,
    let l := s.lens
    lensStatus s =
      { state := l.state, sensed := l.sensed, profileId := l.profileId, revision := l.profile.map fun p => p.revision
        report := l.report, contract := l.contract, inFlight := l.inFlight, queued := l.queued, position := l.position
        aperture := l.aperture, faultCount := l.faultCount, counters := l.counters }) ∧
  ∀ (nibble : BitVec 4) (s : State),
    let value := s.lens.nibbles * 16 + nibble.toNat
    (s.lens.state ≠ .probing ∨ s.lens.settleTimer = none → exec (.probePhase nibble) s = .next s) ∧
    ∀ k, s.lens.state = .probing → s.lens.settleTimer = some k →
      (s.lens.phase < 3 →
        exec (.probePhase nibble) s =
          .next (finish { elapse k s with
            lens := { (elapse k s).lens with
              nibbles := value, phase := s.lens.phase + 1, settleTimer := some 20
              select := if s.lens.phase = 0 then 1 else if s.lens.phase = 1 then 2 else 0 } })) ∧
      (s.lens.phase = 3 → value ≠ 65535 →
        ∃ t ident, exec (.probePhase nibble) s = .next t ∧ Finishes { elapse k s with lens := t.lens } t ∧
          t.lens.state = .identified ∧
          t.lens.sensed = some value ∧ t.lens.profileId = some ident ∧
          t.lens.profile = lookupProfile s.lens.profiles ident ∧ t.lens.outstanding = some .capabilityQuery ∧
          t.lens.answerTimer = some 100000 ∧ t.lens.settleTimer = none ∧ t.lens.select = 0 ∧
          ((∀ e ∈ s.lens.aliases, e.1 ≠ value) → ident = value) ∧
          (∀ before e after, s.lens.aliases = before ++ e :: after → (∀ d ∈ before, d.1 ≠ value) → e.1 = value →
            ident = e.2)) ∧
      (s.lens.phase = 3 → value = 65535 →
        ∃ t, exec (.probePhase nibble) s = .next t ∧ Finishes { elapse k s with lens := t.lens } t ∧
          t = finish (raise .lensNodrive { elapse k s with lens := t.lens }) ∧ t.lens.state = .nodrive ∧
          t.lens.sensed = some 65535 ∧ t.lens.profileId = none ∧ t.lens.profile = none ∧
          t.lens.settleTimer = none)

/-- R76, R78, R79, R80: negotiation. A message that is not the awaited answer, a late one among them, is discarded and
counted. A good report is taken and the highest common class offered over the common range, or the lens is NODRIVE.
ACCEPT sets the contract and starts the setup list; REJECT brings the next lower common class or NODRIVE; WAIT starts
the wait timer and the fifth is a fault; its expiry repeats the OFFER. A setup entry is read, combined and written,
and after the last the controller is READY with fault count 0; PARAM_REFUSED is a fault. The expiry while the timer
still has time to run, and where it does not run: the model's choice (notes/assumptions/2.md, 3.md). The counting of
unexpected messages: notes/assumptions/14.md. R81: LENS_READY, LENS_NODRIVE and LENS_FAULT are raised at the entry to
each of these states. The gate test and selection at the end: notes/assumptions/17.md. -/
def Obligations.LensContractIsNegotiated : Prop :=
  ∀ s : State,
    let discarded : State :=
      { s with
        lens := { s.lens with
          counters := { s.lens.counters with unexpected := satInc s.lens.counters.unexpected } } }
    let requests (r : LensRequest) (t : State) : Prop :=
      t.lens.outstanding = some r ∧ t.lens.lastSent = some r ∧ t.lens.answerTimer = some 100000 ∧ t.lens.misses = 0
    let range := commonRange s.lens
    let setup (l : Lens) (t : State) : Prop :=
      match (setupList s.lens)[l.setupDone]? with
      | none =>
        t.lens.state = .ready ∧ t.lens.faultCount = 0 ∧ t.lens.outstanding = none ∧
          t = finish (raise .lensReady { s with lens := t.lens })
      | some e =>
        t.lens.state = s.lens.state ∧
          requests (if e.op = .set then .paramWrite e.index e.value else .paramRead e.index) t
    (∀ late first last classes aMin aMax,
      (late = true ∨ s.lens.outstanding ≠ some .capabilityQuery ∨ last.toNat < first.toNat ∨ classes = 0 →
        exec (.capabilityReport late first last classes aMin aMax) s = .next discarded) ∧
      (late = false → s.lens.outstanding = some .capabilityQuery → first.toNat ≤ last.toNat → classes ≠ 0 →
        let common := classes &&& profileClasses s.lens
        let lo := max first.toNat (profileRange s.lens).1
        let hi := min last.toNat (profileRange s.lens).2
        ∃ t, exec (.capabilityReport late first last classes aMin aMax) s = .next t ∧
          Finishes { s with lens := t.lens } t ∧
          t.lens.report =
            some { first := first.toNat, last := last.toNat, classes, apertureMin := aMin.toNat,
                   apertureMax := aMax.toNat } ∧
          (common = 0 ∨ hi < lo →
            t.lens.state = .nodrive ∧ t.lens.outstanding = none ∧
              t = finish (raise .lensNodrive { s with lens := t.lens })) ∧
          (common ≠ 0 → lo ≤ hi →
            ∃ cls, cls < 4 ∧ common.getLsbD cls = true ∧ (∀ k, cls < k → common.getLsbD k = false) ∧
              t.lens.state = .negotiating ∧ t.lens.waits = 0 ∧ requests (.offer cls lo hi) t))) ∧
    (∀ late, late = true ∨ (∀ cls first last, s.lens.outstanding ≠ some (.offer cls first last)) →
      exec (.accept late) s = .next discarded ∧ exec (.reject late) s = .next discarded ∧
        exec (.wait late) s = .next discarded) ∧
    (∀ cls first last, s.lens.outstanding = some (.offer cls first last) →
      (∃ t, exec (.accept false) s = .next t ∧ Finishes { s with lens := t.lens } t ∧
        t.lens.contract = some { cls, first, last } ∧
        setup { s.lens with setupDone := 0 } t) ∧
      (∃ t, exec (.reject false) s = .next t ∧ Finishes { s with lens := t.lens } t ∧
        ((∀ k, k < cls → (commonClasses s.lens).getLsbD k = false) →
          t.lens.state = .nodrive ∧ t.lens.outstanding = none ∧
            t = finish (raise .lensNodrive { s with lens := t.lens })) ∧
        (∀ k, k < cls → (commonClasses s.lens).getLsbD k = true →
          (∀ j, k < j → j < cls → (commonClasses s.lens).getLsbD j = false) →
          t.lens.state = s.lens.state ∧ requests (.offer k range.1 range.2) t)) ∧
      (∃ t, exec (.wait false) s = .next t ∧ Finishes { s with lens := t.lens, focus := t.focus } t ∧
        (s.lens.waits = 4 →
          t.lens.state = .fault ∧ t.lens.contract = none ∧
            t = finish (raise .lensFault { s with lens := t.lens, focus := t.focus })) ∧
        (s.lens.waits ≠ 4 →
          t.focus = s.focus ∧ t.lens.waits = s.lens.waits + 1 ∧ t.lens.waitTimer = some 50000 ∧ t.lens.outstanding = none ∧
            t.lens.state = s.lens.state))) ∧
    (s.lens.waitTimer = none → exec .waitTimerExpiry s = .next s) ∧
    (∀ k, s.lens.waitTimer = some k →
      ∃ t, exec .waitTimerExpiry s = .next t ∧ t = { elapse k s with lens := t.lens } ∧
        requests (.offer s.lens.offered range.1 range.2) t ∧
        t.lens.waitTimer = none ∧ t.lens.state = s.lens.state) ∧
    (∀ value : Word16,
      (∀ index e, s.lens.outstanding = some (.paramRead index) →
        (setupList s.lens)[s.lens.setupDone]? = some e →
        ∃ t, exec (.paramValue false value) s = .next t ∧ t = { s with lens := t.lens } ∧ t.lens.state = s.lens.state ∧
          requests
            (.paramWrite index
              (match e.op with
               | .set => e.value
               | .or => value.toNat ||| e.value
               | .and => value.toNat &&& e.value)) t) ∧
      (∀ late, late = true ∨ (∀ index, s.lens.outstanding ≠ some (.paramRead index)) →
        exec (.paramValue late value) s = .next discarded)) ∧
    (∀ index value, s.lens.outstanding = some (.paramWrite index value) →
      ∃ t, exec (.paramDone false) s = .next t ∧ Finishes { s with lens := t.lens } t ∧
        setup { s.lens with setupDone := s.lens.setupDone + 1 } t) ∧
    (∀ late, late = true ∨ (∀ index value, s.lens.outstanding ≠ some (.paramWrite index value)) →
      exec (.paramDone late) s = .next discarded) ∧
    ((∃ index value, s.lens.outstanding = some (.paramRead index) ∨
        s.lens.outstanding = some (.paramWrite index value)) →
      exec (.paramRefused false) s = .next (finish (lensFault s))) ∧
    (∀ late, late = true ∨ (∀ index value, s.lens.outstanding ≠ some (.paramRead index) ∧
        s.lens.outstanding ≠ some (.paramWrite index value)) →
      exec (.paramRefused late) s = .next discarded)

/-- R76, R77, R82 to R85, R87, R88: a drive request is clamped to the contract, sent in READY, queued in DRIVING with
the retarget test, and refused elsewhere. ARRIVED ends the drive at its position, or with an ABORT outstanding only
gives the position; ABORT_ACK, unless late, ends it; the queued request follows, otherwise READY. STATUS is taken
outside ABSENT and PROBING. The first missed answer resends the request and the second is a fault, as is the drive
timer's expiry, behind an ABORT, which is counted; a fault raises LENS_FAULT, clears the contract and the slots and
starts the re-probe timer while the fault count is below 3. The expiry while the timer still has time to run, and
where it does not run: the model's choice (notes/assumptions/2.md, 3.md). The counting of misses and unexpected
messages: notes/assumptions/14.md. The gate test and selection at the end: notes/assumptions/17.md. A fault stops the
drive timer too, also where an ABORT's second miss causes it: the model's choice (55.md). -/
def Obligations.LensDrivesEndArrivedOrFaulty : Prop :=
  ∀ s : State,
    let discarded : State :=
      { s with
        lens := { s.lens with
          counters := { s.lens.counters with unexpected := satInc s.lens.counters.unexpected } } }
    let ended (position : Nat) (t : State) : Prop :=
      t.lens.position = some position ∧ t.lens.outstanding = (if s.lens.outstanding = some .abort then none
        else s.lens.outstanding) ∧
        (s.lens.queued = none → t.lens.state = .ready ∧ t.lens.inFlight = none ∧ t.focus.sentTarget = none) ∧
        (∀ q, s.lens.queued = some q →
          t.lens.state = .driving ∧ t.lens.inFlight = some q ∧ t.lens.queued = none ∧
            t.lens.driveTimer = some (s.lens.driveTimeout * 1000) ∧ t.focus.sentTarget = s.focus.queuedTarget ∧
            t.focus.queuedTarget = none ∧ t.lens.counters.drives = satInc s.lens.counters.drives)
    (∀ position : Word16,
      (s.lens.state ≠ .driving ∨ s.lens.inFlight = none → exec (.arrived position) s = .next discarded) ∧
      (s.lens.state = .driving → s.lens.inFlight ≠ none → s.lens.outstanding = some .abort →
        exec (.arrived position) s = .next { s with lens := { s.lens with position := some position.toNat } }) ∧
      (s.lens.state = .driving → s.lens.inFlight ≠ none → s.lens.outstanding ≠ some .abort →
        ∃ t, exec (.arrived position) s = .next t ∧ Finishes { s with lens := t.lens, focus := t.focus } t ∧
          ended position.toNat t) ∧
      (s.lens.state = .driving → s.lens.outstanding = some .abort →
        ∃ t, exec (.abortAck false position) s = .next t ∧ Finishes { s with lens := t.lens, focus := t.focus } t ∧
          ended position.toNat t) ∧
      (∀ late, late = true ∨ s.lens.state ≠ .driving ∨ s.lens.outstanding ≠ some .abort →
        exec (.abortAck late position) s = .next discarded) ∧
      ∀ aperture : Byte,
        (s.lens.state = .absent ∨ s.lens.state = .probing → exec (.status position aperture) s = .next s) ∧
        (s.lens.state ≠ .absent → s.lens.state ≠ .probing →
          exec (.status position aperture) s =
            .next { s with
              lens := { s.lens with position := some position.toNat, aperture := aperture.toNat } })) ∧
    (s.lens.answerTimer = none → exec .answerTimeout s = .next s) ∧
    (∀ r k, s.lens.answerTimer = some k → s.lens.outstanding = some r →
      (s.lens.misses = 0 →
        ∃ t, exec .answerTimeout s = .next t ∧ Finishes { elapse k s with lens := t.lens } t ∧
          t.lens.state = s.lens.state ∧ t.lens.outstanding = some r ∧
          t.lens.lastSent = some r ∧ t.lens.answerTimer = some 100000 ∧ t.lens.misses = 1 ∧
          t.lens.counters.timeouts = satInc s.lens.counters.timeouts) ∧
      (s.lens.misses ≠ 0 → exec .answerTimeout s = .next (finish (lensFault (elapse k s))))) ∧
    (s.lens.driveTimer = none → exec .driveTimerExpiry s = .next s) ∧
    (∀ k, s.lens.driveTimer = some k →
      exec .driveTimerExpiry s = .next (finish (lensFault (sendAbort (elapse k s))))) ∧
    sendAbort s =
      { s with
        lens := { s.lens with
          lastSent := some .abort
          counters := { s.lens.counters with aborts := satInc s.lens.counters.aborts } } } ∧
    (let t := lensFault s
     t = raise .lensFault { s with lens := t.lens, focus := t.focus } ∧
       t.lens.state = .fault ∧ t.lens.contract = none ∧ t.lens.inFlight = none ∧ t.lens.queued = none ∧
       t.lens.outstanding = none ∧ t.lens.answerTimer = none ∧ t.lens.waitTimer = none ∧ t.lens.driveTimer = none ∧
       t.lens.reprobeTimer = (if s.lens.faultCount < 3 then some 200000 else none) ∧
       t.lens.faultCount = s.lens.faultCount ∧ t.lens.sensed = s.lens.sensed ∧
       t.lens.profileId = s.lens.profileId ∧ t.lens.report = s.lens.report ∧
       t.focus.queuedTarget = (if s.lens.queued = none then s.focus.queuedTarget else none)) ∧
    ∀ target : Nat,
      (s.lens.contract = none ∨ (s.lens.state ≠ .ready ∧ s.lens.state ≠ .driving) →
        driveRequest target s =
          { s with
            focus := { s.focus with
              counters := { s.focus.counters with refused := satInc s.focus.counters.refused } } }) ∧
      ∀ c, s.lens.contract = some c →
        let goal := min (max target c.first) c.last
        let t := driveRequest target s
        (s.lens.state = .ready →
          t.lens.state = .driving ∧ t.lens.inFlight = some goal ∧ t.lens.lastSent = some (.drive goal c.cls) ∧
            t.lens.driveTimer = some (s.lens.driveTimeout * 1000) ∧ t.focus.sentTarget = some goal) ∧
        (s.lens.state = .driving →
          t.lens.state = .driving ∧ t.lens.inFlight = s.lens.inFlight ∧ t.lens.queued = some goal ∧
            t.focus.queuedTarget = some goal ∧
            (∀ p f, s.lens.position = some p → s.lens.inFlight = some f → s.lens.outstanding ≠ some .abort →
              ((p < f ∧ goal < p) ∨ (f < p ∧ p < goal) →
                t.lens.outstanding = some .abort ∧ t.lens.answerTimer = some 100000 ∧
                  t.lens.counters.aborts = satInc s.lens.counters.aborts) ∧
              (¬ ((p < f ∧ goal < p) ∨ (f < p ∧ p < goal)) → t.lens.outstanding = s.lens.outstanding)))

/-! ## Focus (05) -/

/-- R95, R96, R103, R106: FTGT names at most 16 sites of the table, none twice, or none for the default target, and is
answered with the focus status, which holds what R106 lists. A target that stands already changes nothing; another
sets the counts to 0 and sends an active engine back to SEEKING or TRACKING. A drive called for goes to the lens
controller unless its target is already sent or queued, and is counted unplanned where the lens cannot be driven or
nothing is measured. The layout of the answer, the counting of drives not planned, a change of the target's source
alone, and the gate test and selection at the end: the model's choice (notes/assumptions/6.md, 43.md, 49.md,
17.md). -/
def Obligations.FtgtRetargetsAndDrivesArePlanned : Prop :=
  (∀ (c : Cell) (s : State), FrontInRun .host codeFTGT c s →
    let reply (f : Focus) :=
      let t : State := { taken .host s with focus := f }
      Host.Outcome.next (φ := Fault) (ρ := Refusal) (finish (answer .host c .done (.focus (focusStatus t)) t))
    let cleared (f : Focus) : Focus :=
      let state :=
        match f.state, f.mode with
        | .off, _ => f.state
        | .idle, _ => f.state
        | _, some .single => .seeking
        | _, some .continuous => .tracking
        | _, _ => f.state
      { f with state, miss := 0, seek := 0, run := 0 }
    let listed : Prop :=
      c.fields.length ≤ 16 ∧ c.fields.Nodup ∧ ∀ n ∈ c.fields, n ≤ 95 ∧ ∃ x ∈ s.focus.sites, x.number = n
    (¬ listed → exec (.ftgt .host) s = .next (answerBare .host c .badarg (taken .host s))) ∧
    (listed →
      (c.fields = [] →
        (s.focus.targetSource = .default → exec (.ftgt .host) s = reply s.focus) ∧
        (s.focus.targetSource = .host →
          exec (.ftgt .host) s =
            reply (cleared { s.focus with target := defaultTarget s.focus.sites, targetSource := .default }))) ∧
      (c.fields ≠ [] →
        (s.focus.targetSource = .host → s.focus.target = c.fields → exec (.ftgt .host) s = reply s.focus) ∧
        (s.focus.targetSource = .default ∨ s.focus.target ≠ c.fields →
          exec (.ftgt .host) s = reply (cleared { s.focus with target := c.fields, targetSource := .host }))))) ∧
  (∀ s : State,
    let f := s.focus
    focusStatus s =
      { state := f.state, mode := f.mode, targetSource := f.targetSource, target := f.target, error := f.error
        inBand := f.inBand, valid := (f.set.filter fun r => r.valid).length, miss := f.miss, seek := f.seek
        run := f.run, measuredFrame := f.measuredFrame, sentTarget := f.sentTarget, queuedTarget := f.queuedTarget
        counters := f.counters }) ∧
  (∀ table : List Site,
    defaultTarget table = ((table.filter fun x => x.group = 0).map fun x => x.number).take 16) ∧
  ∀ s : State,
    let f := s.focus
    let count (g : FocusCounters → FocusCounters) : State := { s with focus := { f with counters := g f.counters } }
    let held (v : Int) : Nat := min v.toNat 65535
    (f.error = none ∨ f.inBand = true → planIfOut s = s) ∧
    ∀ e, f.error = some e → f.inBand = false →
      ((s.lens.state ≠ .ready ∧ s.lens.state ≠ .driving) ∨ f.measuredPosition = none →
        planIfOut s = count fun c => { c with unplanned := satInc c.unplanned }) ∧
      ∀ p, s.lens.state = .ready ∨ s.lens.state = .driving → f.measuredPosition = some p →
        ∀ goal, (f.state ≠ .tracking ∧ goal = held ((p : Int) + e)) ∨
            (f.state = .tracking ∧ ∃ q, f.predicted = some q ∧ goal = held ((q : Int) + e)) →
          (f.sentTarget = some goal ∨ f.queuedTarget = some goal → planIfOut s = s) ∧
          (f.sentTarget ≠ some goal → f.queuedTarget ≠ some goal →
            planIfOut s = driveRequest goal (count fun c => { c with requests := satInc c.requests }))

/-- R93, R94, R97 to R102: a measurement completes. The set is replaced, in table order, each disparity and confidence
a value of the samples of the site's window alone and a reading valid where the site could be measured and its
confidence is at least the threshold and not 0; frame and position are recorded. Outside OFF the record follows: the
weighted error of the valid target sites and whether it is in band, and of the positions the last four with velocity
and prediction. SEEKING locks after two measurements in band, fails after twelve and is lost after the loss limit,
TRACKING is lost after it; otherwise a drive is planned where the measurement is out of band. LOST in CONTINUOUS mode
is TRACKING again with a valid site. R97: in SEEKING, LOCKED and TRACKING each target site without a valid reading
hands over to the first site of its group, not in the target and not yet taken, whose disparity lies within 2 of the
weighted mean, and each handover counts; elsewhere, or without a valid target site, the target stays. R98: the sites
in focus are the valid target sites whose error is within the deadband, the centroid the weighted mean of their
columns and lines, none without one; the factor is that of the band of the lens profile that covers the position,
otherwise the profile's, and 16 without a profile. The values that a window gives are free (9.md). A target set by a
table installed meanwhile is read in the measurement's own table (61.md). Which frame completes, the oldest awaited of
the counter named, a counter that none has, and the gate test and selection at the end: the model's choice
(notes/assumptions/16.md, 3.md, 17.md). Handover changes a DEFAULT target as it does a HOST one, the source staying as
it was: the model's choice (56.md). -/
def Obligations.MeasurementUpdatesRecordAndState : Prop :=
  (∀ (frame : Word16) (s : State),
    ((∀ m ∈ s.focus.awaited, m.counter ≠ frame.toNat) → exec (.measurementComplete frame) s = .next s) ∧
    ∀ before m after, s.focus.awaited = before ++ m :: after → (∀ w ∈ before, w.counter ≠ frame.toNat) →
      m.counter = frame.toNat →
      exec (.measurementComplete frame) s =
        .next (finish (actOnMeasurement m
          { s with
            focus := { s.focus with
              awaited := before ++ after, set := measureAll m s.focus.threshold, measuredFrame := some m.counter
              measuredPosition := s.lens.position
              counters := { s.focus.counters with measurements := satInc s.focus.counters.measurements } } }))) ∧
  (∀ (m : AwaitedMeasurement) (s : State),
    let f := (trackRecord m s).focus
    let run := if f.inBand then s.focus.run + 1 else 0
    let miss := if f.error = none then s.focus.miss + 1 else 0
    let seek := if s.lens.state = .ready ∨ s.lens.state = .driving then s.focus.seek + 1 else s.focus.seek
    let becomes (g : Focus) : State := { s with focus := g }
    let answers (t : State) : Prop := actOnMeasurement m s = t
    trackRecord m s = becomes f ∧
    (s.focus.state = .off → answers s) ∧
    (s.focus.state = .idle ∨ s.focus.state = .locked ∨
        (s.focus.state = .lost ∧ (s.focus.mode ≠ some .continuous ∨ f.error = none)) →
      answers (becomes f)) ∧
    (s.focus.state = .seeking →
      let g : Focus := { f with run, miss, seek }
      (2 ≤ run → answers (raise .focusLocked (becomes { g with state := .locked }))) ∧
      (run < 2 → 12 ≤ seek → answers (raise .focusFail (becomes { g with state := .lost }))) ∧
      (run < 2 → seek < 12 → s.focus.lossLimit ≤ miss →
        answers (raise .focusLost (becomes { g with state := .lost }))) ∧
      (run < 2 → seek < 12 → miss < s.focus.lossLimit → answers (planIfOut (becomes g)))) ∧
    (s.focus.state = .tracking →
      (s.focus.lossLimit ≤ miss →
        answers (raise .focusLost
          (becomes { f with
            miss, state := .lost, target := defaultTarget f.sites, targetSource := .default }))) ∧
      (miss < s.focus.lossLimit → answers (planIfOut (becomes { f with miss })))) ∧
    (s.focus.state = .lost → s.focus.mode = some .continuous → f.error ≠ none → 1 ≤ s.focus.lossLimit →
      answers (planIfOut (becomes { f with state := .tracking, miss := 0 }))) ∧
    f.history =
      (match s.focus.measuredPosition with
       | none => []
       | some p => if s.focus.history.length < 4 then s.focus.history ++ [p] else s.focus.history.drop 1 ++ [p]) ∧
    (∀ oldest newest, f.history.head? = some oldest → f.history.getLast? = some newest → 2 ≤ f.history.length →
      f.velocity = ((newest : Int) - oldest).tdiv ((f.history.length : Int) - 1)) ∧
    (f.history.length ≤ 1 → f.velocity = 0) ∧
    f.predicted = f.history.getLast?.map (fun newest => min ((newest : Int) + f.velocity).toNat 65535) ∧
    (let valid := validOf m s.focus.set f.target
     let factor := conversionFactor s.lens s.focus.measuredPosition
     (valid = [] → f.error = none) ∧
     (valid ≠ [] →
       f.error =
         some ((weightedDisparity valid * (factor : Int)).tdiv (weightSum valid))) ∧
     (f.inBand = true ↔ ∃ e, f.error = some e ∧ e.natAbs ≤ s.focus.deadband) ∧
     (let sharp := valid.filter fun p => decide ((p.2 * (factor : Int)).natAbs ≤ s.focus.deadband)
      let mean (value : Site → Nat) : Nat :=
        (sharp.map fun p => p.1.weight * value p.1).sum / (sharp.map fun p => p.1.weight).sum
      f.inFocus = sharp.map (fun p => p.1.number) ∧ (sharp = [] → f.centroid = none) ∧
        (sharp ≠ [] →
          f.centroid =
            some (mean fun x => x.column + x.width / 2, mean fun x => m.phaseLines.getD x.phaseIndex 0))) ∧
     (s.focus.state = .idle ∨ s.focus.state = .lost → f.target = s.focus.target)) ∧
    (let before := validOf m s.focus.set s.focus.target
     let hands : Prop := s.focus.state = .seeking ∨ s.focus.state = .locked ∨ s.focus.state = .tracking
     f.targetSource = s.focus.targetSource ∧
     (¬ hands ∨ before = [] →
       f.target = s.focus.target ∧ f.counters = s.focus.counters) ∧
     (hands → before ≠ [] →
       let r :=
         handoverFrom m s.focus.set ((weightedDisparity before).tdiv (weightSum before)) [] s.focus.target
       f.target = r.1 ∧
         f.counters =
           { s.focus.counters with handovers := satAdd s.focus.counters.handovers r.2 }))) ∧
  (∀ (m : AwaitedMeasurement) (set : List SiteReading) (mean : Int) (done : List Nat),
    handoverFrom m set mean done [] = (done, 0) ∧
    ∀ (n : Nat) (rest : List Nat),
      let takes (x : Site) : Prop :=
        (∃ y, m.sites.find? (fun w => w.number == n) = some y ∧ x.group = y.group) ∧
          x.number ∉ done ++ n :: rest ∧ ∃ p, validSite m set x.number = some p ∧ (p.2 - mean).natAbs ≤ 2
      (validSite m set n ≠ none ∨ (∀ x ∈ m.sites, ¬ takes x) →
        handoverFrom m set mean done (n :: rest) = handoverFrom m set mean (done ++ [n]) rest) ∧
      ∀ before x after, validSite m set n = none → m.sites = before ++ x :: after → (∀ w ∈ before, ¬ takes w) →
        takes x →
        handoverFrom m set mean done (n :: rest) =
          ((handoverFrom m set mean (done ++ [x.number]) rest).1,
            (handoverFrom m set mean (done ++ [x.number]) rest).2 + 1)) ∧
  (∀ (m : AwaitedMeasurement) (set : List SiteReading) (target : List Nat) (v : List (Site × Int)),
    validOf m set target = target.filterMap (validSite m set) ∧
    (∀ n x d, validSite m set n = some (x, d) ↔
      m.sites.find? (fun w => w.number == n) = some x ∧
        ∃ r, set.find? (fun w => w.site == n) = some r ∧ r.valid = true ∧ r.disparity = d) ∧
    weightedDisparity v = (v.map fun p => (p.1.weight : Int) * p.2).sum ∧
    weightSum v = (v.map fun p => (p.1.weight : Int)).sum ∧
    ∀ x : Site,
      measurable m x = true ↔
        x.phaseIndex < m.phaseLines.length ∧ x.column + x.width ≤ m.samples ∧
          ∃ p, m.phases.find? (fun q => q.1 == x.phaseIndex) = some p ∧
            ∃ a ∈ (p.2.drop x.column).take x.width, ∃ b ∈ (p.2.drop x.column).take x.width, a ≠ b) ∧
  (∀ (l : Lens) (position : Option Nat),
    (l.state = .absent ∨ l.state = .probing ∨ l.profile = none → conversionFactor l position = 16) ∧
    ∀ p, l.state ≠ .absent → l.state ≠ .probing → l.profile = some p →
      let covers (b : Band) : Prop := ∃ n, position = some n ∧ b.first ≤ n ∧ n ≤ b.last
      ((∀ b ∈ bandsOf p.chain, ¬ covers b) → conversionFactor l position = p.factor) ∧
      ∀ before b after, bandsOf p.chain = before ++ b :: after → (∀ w ∈ before, ¬ covers w) → covers b →
        conversionFactor l position = b.factor) ∧
  ∀ (m : AwaitedMeasurement) (threshold : Nat),
    (measureAll m threshold).length = m.sites.length ∧
    ∀ (k : Nat) (x : Site), m.sites[k]? = some x →
      ∃ r, (measureAll m threshold)[k]? = some r ∧ r.site = x.number ∧
        (measurable m x = false → r.valid = false ∧ r.confidence = 0 ∧ r.disparity = 0) ∧
        ∀ p, measurable m x = true → m.phases.find? (fun q => q.1 == x.phaseIndex) = some p →
          let window := (p.2.drop x.column).take x.width
          let confidence := (Config.windowConfidence window).toNat
          r.disparity = (Config.windowDisparity window).toInt ∧ r.confidence = confidence ∧
            (r.valid = true ↔ threshold ≤ confidence ∧ confidence ≠ 0)

/-! ## Development (06) -/

/-- R111, R113 to R115, R117, R118, R121: an IDLE engine starts on the head of its queue with the bound generation of
the recipe or its substitute, the neutral recipe where the slot is empty, marked and counted, and with the SHADING
grid of the profile that R75 looks up, or the shot marked shading-missing. A page request is granted while the floor
is kept and otherwise waits for space; the quality is the first, from the one asked for down, whose length fits 96
pages. DEVELOPMENT_COMPLETE, when the last output has its pages: each fixed output becomes READY in turn and is tested
for need, RAW loses its reader and is tested, DEVELOP_DONE latches, and the engine is IDLE or starts again. The
commands change nothing at any other time (the model's choice, notes/assumptions/3.md). R119: a development none of
whose outputs has an OWED duty is abandoned: its outputs are RELEASED, their pages return (DEV's before PRV's, as one
change: the model's choice, notes/assumptions/37.md), RAW loses its reader and is tested, the shot is reassessed, and
the engine starts again. R112, R120: a shot joins the queue at its place, stays where it is in it, or under
development is marked and joins afterwards where an output is PENDING. R110: a previous generation is dropped once no
shot waits for it. R115: RAW's items read back give the lines packed, and a line RAW lacks is of the fill value. R114:
each sample is multiplied by its gain, in units of 1/4,096: between those of the nearest points of the 17 x 13 grid,
that point's on one, 4,096 without a grid (log 52). The bytes of an output, its size, the length of a page granted,
and the selection at the end: logs 11, 10, 28, 17. The grid of 17 gains in each of 13 rows: the model's choice
(57.md). R116: the crop window, centred on the frame or on the centroid and moved inward at an edge, and PRV's
size. -/
def Obligations.DevelopmentTakesPagesAndCompletes : Prop :=
  (∀ (b : RecipeSlot) (gen : Nat),
    (∀ r, b.generation = gen → b.current = some r →
      chooseRecipe b gen = { recipe := r, generation := gen, substituted := false }) ∧
    (∀ r, b.generation ≠ gen → b.previous = some (gen, r) →
      chooseRecipe b gen = { recipe := r, generation := gen, substituted := false }) ∧
    (b.generation ≠ gen → (∀ g r, b.previous = some (g, r) → g ≠ gen) →
      ∀ r, b.current = some r →
        chooseRecipe b gen = { recipe := r, generation := b.generation, substituted := true }) ∧
    (b.current = none → (∀ g r, b.previous = some (g, r) → g ≠ gen) →
      chooseRecipe b gen = { recipe := neutralRecipe, generation := 0, substituted := true })) ∧
  neutralRecipe =
    { tone := [(0, 0), (65535, 65535)], matrix := [4096, 0, 0, 0, 4096, 0, 0, 0, 4096], gains := [4096, 4096, 4096]
      sharpen := 0, quality := 90, half := false, longEdge := 1024, subject := false, shading := false } ∧
  (∀ (slot : Nat) (rest : List Nat) (x : Shot) (s : State), s.dev.state = .idle → s.dev.queue = slot :: rest →
    shotAt s slot = some x →
    let t := startIfIdle s
    let choice := chooseRecipe (bankSlot s x.recipeSlot) x.recipeGen
    t.dev.state = .developing ∧ t.dev.queue = rest ∧
      (∃ w, t.dev.work = some w ∧ w.slot = slot ∧ w.recipe = choice.recipe ∧ w.generation = choice.generation ∧
        w.requeue = false ∧ w.sizes = [] ∧ w.substituted = choice.substituted ∧
        w.shading =
          (if choice.recipe.shading then
             (x.lens.bind fun l => l.profile).bind fun ident =>
               (lookupProfile s.lens.profiles ident).bind fun p => shadingOf p.chain
           else none) ∧
        w.shadingMissing = (choice.recipe.shading && w.shading.isNone) ∧
        (∀ y, shotAt t slot = some y →
          y.substituted = (x.substituted || choice.substituted) ∧
            y.shadingMissing = (x.shadingMissing || w.shadingMissing)) ∧
        (∀ r, r ∈ w.outputs ↔ r ≠ .raw ∧ (rendOf x r).state = .pending) ∧ w.outputs.head? = (if x.dev.state = .pending
          then some .dev else if x.prv.state = .pending then some .prv else none)) ∧
      t.dev.counters =
        { s.dev.counters with
          substitutions :=
            if choice.substituted then satInc s.dev.counters.substitutions else s.dev.counters.substitutions } ∧
      ∃ y, shotAt t slot = some y ∧ y.raw.readers = x.raw.readers + 1 ∧
        (x.dev.state = .pending → y.dev.state = .filling ∧ y.dev.pages = []) ∧
        (x.prv.state = .pending → y.prv.state = .filling ∧ y.prv.pages = [])) ∧
  (∀ (sizes : List Nat) (s : State),
    (s.dev.state ≠ .developing ∨ s.dev.work = none ∨ producing s = none →
      exec (.devPageRequest sizes) s = .next s) ∧
    ∀ w x r, s.dev.state = .developing → s.dev.work = some w → producing s = some (x, r) →
      let waits (t : State) : State :=
        { t with
          dev := { t.dev with
            state := .waitSpace
            counters := { t.dev.counters with spaceWaits := satInc t.dev.counters.spaceWaits } } }
      let granted (z : OutputSize) (t : State) (p : Nat) (rest : List Nat) : State :=
        setFree rest
          (updShot x.slot
            (setRend z.rend fun d =>
              { d with
                pages := d.pages ++ [p], length := min z.length ((d.pages.length + 1) * 1048576 - 256) })
            { t with dev := { t.dev with state := .developing } })
      let asks (z : OutputSize) (t : State) : Prop :=
        (∀ p rest, s.store.free = p :: rest → s.store.floor ≤ rest.length →
          exec (.devPageRequest sizes) s = .next (granted z t p rest)) ∧
        (s.store.free = [] ∨ s.store.free.length ≤ s.store.floor →
          exec (.devPageRequest sizes) s = .next (waits t))
      (∀ z, settledSize s r = some z → asks z s) ∧
      (settledSize s r = none →
        let z := settleSize r w.recipe.quality sizes
        asks z
          { s with
            dev := { s.dev with
              work := some { w with sizes := w.sizes ++ [z] }
              counters := { s.dev.counters with
                reduced :=
                  if z.quality < w.recipe.quality then satInc s.dev.counters.reduced
                  else s.dev.counters.reduced } } })) ∧
  (∀ (asked k length : Nat) (sizes : List Nat), k < asked → sizes[k]? = some length → 256 + length ≤ 96 * 1048576 →
    (∀ j l, j < k → sizes[j]? = some l → 96 * 1048576 < 256 + l) →
    settleSize .dev asked sizes = { rend := .dev, quality := asked - k, length }) ∧
  (∀ s : State,
    (s.dev.work = none ∨ s.dev.state ≠ .developing ∨ producing s ≠ none →
      exec .developmentComplete s = .next s) ∧
    ∀ w, s.dev.work = some w → s.dev.state = .developing → producing s = none →
      let made := w.outputs.foldl (completeOutput w) s
      let tested := w.outputs.foldl (fun u r => readyTest w.slot r u) made
      let done :=
        raise .developDone
          (readyTest w.slot .raw
            (updShot w.slot (fun x => { x with raw := { x.raw with readers := x.raw.readers - 1 } }) tested))
      let idle : State :=
        { done with
          dev := { done.dev with
            state := .idle, work := none
            counters := { done.dev.counters with completed := satInc done.dev.counters.completed } } }
      let t := startIfIdle (requeueAfter w (reassess w.slot (previousTest idle)))
      exec .developmentComplete s = .next (settle t) ∧ Stores s t ∧
        t.dev.counters.completed = satInc s.dev.counters.completed ∧
        (s.dev.queue = [] → w.requeue = false → t.dev.state = .idle ∧ t.dev.work = none)) ∧
  (∀ (slot : Nat) (s : State),
    (s.dev.work = none ∨ shotAt s slot = none ∨ (∃ w, s.dev.work = some w ∧ w.slot ≠ slot) → abandonTest slot s = s) ∧
    ∀ w x, s.dev.work = some w → w.slot = slot → shotAt s slot = some x →
      let wanted : Prop := ∃ r ∈ w.outputs, ∃ y ∈ x.duties, y.rend = r ∧ y.state = .owed
      let partial_ (k : Rend) : List Nat := if k.state = .filling then k.pages else []
      let givesUp (k : Rend) : Rend :=
        if k.state = .filling then { k with state := .released, pages := [], length := 0, content := .none } else k
      let idle : State :=
        { s with
          dev := { s.dev with
            state := .idle, work := none
            counters := { s.dev.counters with abandoned := satInc s.dev.counters.abandoned } } }
      let back :=
        returnPages (partial_ x.dev ++ partial_ x.prv)
          (updShot slot (fun y => { y with dev := givesUp y.dev, prv := givesUp y.prv }) idle)
      let tested :=
        reassess slot
          (readyTest slot .raw
            (updShot slot (fun y => { y with raw := { y.raw with readers := y.raw.readers - 1 } }) back))
      (wanted → abandonTest slot s = s) ∧
      (¬ wanted → abandonTest slot s = startIfIdle (requeueAfter w (previousTest tested)))) ∧
  (∀ (slot : Nat) (s : State),
    let marked : State := { s with dev := { s.dev with work := s.dev.work.map fun w => { w with requeue := true } } }
    (s.dev.state ≠ .idle ∨ s.dev.queue = [] → startIfIdle s = s) ∧
    ((∃ w, s.dev.work = some w ∧ w.slot = slot) → joinQueue slot s = marked) ∧
    ((∀ w, s.dev.work = some w → w.slot ≠ slot) →
      (slot ∈ s.dev.queue → joinQueue slot s = s) ∧
      (slot ∉ s.dev.queue →
        ∃ front back, s.dev.queue = front ++ back ∧
          joinQueue slot s = startIfIdle { s with dev := { s.dev with queue := front ++ slot :: back } } ∧
          (∀ m ∈ front, developBefore s slot m = false) ∧
          ∀ m, back.head? = some m → developBefore s slot m = true)) ∧
    ∀ (w : Work) (x : Shot), w.slot = slot → shotAt s slot = some x →
      (w.requeue = false ∨ (x.dev.state ≠ .pending ∧ x.prv.state ≠ .pending) → requeueAfter w s = s) ∧
      (w.requeue = true → x.dev.state = .pending ∨ x.prv.state = .pending →
        ∃ front back, s.dev.queue = front ++ back ∧
          requeueAfter w s = { s with dev := { s.dev with queue := front ++ slot :: back } } ∧
          (∀ m ∈ front, developBefore s slot m = false) ∧
          ∀ m, back.head? = some m → developBefore s slot m = true)) ∧
  (∀ s : State,
    previousTest s = { s with dev := { s.dev with bank := (previousTest s).dev.bank } } ∧
    ∀ (i : Nat) (b : RecipeSlot), s.dev.bank[i]? = some b →
      let waits (g : Nat) : Prop :=
        ∃ x ∈ s.store.shots, x.recipeSlot = i ∧ x.recipeGen = g ∧
          (x.dev.state = .pending ∨ x.dev.state = .filling ∨ x.prv.state = .pending ∨ x.prv.state = .filling)
      ((∀ g r, b.previous = some (g, r) → waits g) → (previousTest s).dev.bank[i]? = some b) ∧
      ∀ g r, b.previous = some (g, r) → ¬ waits g →
        (previousTest s).dev.bank[i]? = some { b with previous := none }) ∧
  (∀ (table : List LensProfile) (ident : Nat),
    let fits (q : LensProfile) : Prop := q.ident = ident ∧ q.level ≤ 2
    ((∀ q ∈ table, ¬ fits q) → lookupProfile table ident = none) ∧
    ∀ before p after, table = before ++ p :: after → fits p → (∀ q ∈ before, fits q → q.revision < p.revision) →
      (∀ q ∈ after, fits q → q.revision ≤ p.revision) → lookupProfile table ident = some p) ∧
  (∀ (g : Geometry) (lines : List (Nat × Bool × List Nat)) (count : Nat),
    (∀ l ∈ lines, l.1 < 65536 ∧ l.2.2.length = g.samples ∧ ∀ v ∈ l.2.2, v < 2 ^ g.depth) → 1 ≤ g.depth →
    g.depth ≤ 16 → lines.length ≤ count →
    readLines g.depth g.samples count (lines.map fun l => lineBytes g l.1 l.2.1 l.2.2).flatten =
      lines.map fun l => (l.1, l.2.2)) ∧
  (∀ (x : DevSource) (b : ReadoutBlock), x.readout = some b →
    let held := readLines b.depth b.samples b.lines x.raw
    (∀ n, n < b.lines →
      (∀ before line after, held = before ++ (n, line) :: after → (∀ q ∈ before, q.1 ≠ n) →
        (frameLines b x.raw)[n]? = some line) ∧
      ((∀ q ∈ held, q.1 ≠ n) → (frameLines b x.raw)[n]? = some (List.replicate b.samples b.fill))) ∧
    (sourceFrame x).length = b.lines ∧
    (∀ n column v, (frameLines b x.raw)[n]?.bind (fun samples => samples[column]?) = some v →
      (sourceFrame x)[n]?.bind (fun samples => samples[column]?) =
        some (v * shadingGain x.grid b.lines b.samples n column)) ∧
    ∀ block serial offset,
      contentByte (.encoded block x serial) offset = Config.encodedByte (sourceFrame x) x.recipe block serial offset) ∧
  (∀ lines samples n column : Nat, shadingGain none lines samples n column = 4096) ∧
  (∀ (grid : List Nat) (lines samples n column low high : Nat), 2 ≤ lines → 2 ≤ samples →
    let row := n * 12 / (lines - 1)
    let col := column * 16 / (samples - 1)
    let near (r c : Nat) : Prop :=
      (r = row ∨ (r = row + 1 ∧ n * 12 % (lines - 1) ≠ 0)) ∧
        (c = col ∨ (c = col + 1 ∧ column * 16 % (samples - 1) ≠ 0))
    (∀ r c, near r c → low ≤ grid.getD (r * 17 + c) 4096 ∧ grid.getD (r * 17 + c) 4096 ≤ high) →
    low ≤ shadingGain (some grid) lines samples n column ∧ shadingGain (some grid) lines samples n column ≤ high) ∧
  (∀ (w : Work) (x : Shot) (samples lines : Nat) (z : OutputSize),
    let b := devBlockOf w x samples lines z
    let window (n : Nat) : Nat := 2 * (n / 3)
    let long := w.recipe.longEdge
    let point (column line : Nat) : Prop :=
      w.recipe.subject = true ∧ ∃ f, x.focus = some f ∧ f.centroid = some (column, line)
    let placed (n p edge : Nat) : Prop :=
      (p < window n / 2 → edge = 0) ∧
        (window n / 2 ≤ p → p - window n / 2 + window n ≤ n → edge = p - window n / 2) ∧
        (window n / 2 ≤ p → n < p - window n / 2 + window n → edge = n - window n)
    b.slot = x.recipeSlot ∧ b.generation = w.generation ∧ b.substituted = w.substituted ∧
      b.shadingApplied = w.shading.isSome ∧ b.shadingMissing = w.shadingMissing ∧ b.half = w.recipe.half ∧
      b.qualityAsked = w.recipe.quality ∧ b.qualityUsed = z.quality ∧
      (z.rend = .dev →
        (w.recipe.half = false → b.width = samples ∧ b.height = lines) ∧
        (w.recipe.half = true → b.width = samples / 2 ∧ b.height = lines / 2) ∧
        b.subject = false ∧ b.cropLeft = 0 ∧ b.cropTop = 0 ∧ b.cropWidth = 0 ∧ b.cropHeight = 0) ∧
      (z.rend = .prv →
        b.cropWidth = window samples ∧ b.cropHeight = window lines ∧
        ((∀ column line, ¬ point column line) →
          b.subject = false ∧ b.cropLeft = (samples - window samples) / 2 ∧
            b.cropTop = (lines - window lines) / 2) ∧
        (∀ column line, point column line →
          b.subject = true ∧ placed samples column b.cropLeft ∧ placed lines line b.cropTop) ∧
        (window lines ≤ window samples →
          b.width = long ∧ b.height = max 2 (window lines * long / window samples / 2 * 2)) ∧
        (window samples < window lines →
          b.height = long ∧ b.width = max 2 (window samples * long / window lines / 2 * 2)))) ∧
  ∀ (w : Work) (r : Rendition) (x : Shot) (z : OutputSize) (s : State), shotAt s w.slot = some x →
    settledSize s r = some z →
    let t := completeOutput w s r
    t.dev.serial = s.dev.serial + 1 ∧
      shotAt t w.slot =
        some (setRend r (fun k =>
          { k with
            state := .ready, length := z.length
            content :=
              .encoded (devBlockOf w x (frameShape x).1 (frameShape x).2 z)
                { readout := x.readout, grid := w.shading, recipe := w.recipe
                  raw := match x.raw.content with | .raw bytes => bytes | _ => [] }
                s.dev.serial }) x)

/-! ## Cards (07) -/

/-- R129, R138, R125, R137: XTNT is STATE without a capacity, BADARG for an extent that is empty, outside the card or
on blocks already listed or used, FULL above 64 extents, and otherwise appends its extents, a MOUNTED or FULL slot
becoming READY. PLRD returns and removes records from the front, after which a STALLED slot may write again. CPWR
switches power: off empties the slot and its active write's duty is OWED again, on makes it EMPTY and mounts a card
that is there. A slot that is not listed, or another argument out of range, is BADARG. The slot status is that after
selection, and the BADARG of a CPWR that names a listed slot carries it too (the model's choice,
notes/assumptions/17.md, 48.md). The layout of the arguments and of the slot status: 5.md, 6.md. R141: the slot status
holds every field that the rule lists. 10 section 10.5: a placement record is its card, rendition, outcome and run
count, shot number, byte length and runs. -/
def Obligations.ExtentsLogAndPowerOfASlot : Prop :=
  (∀ (v : Nat) (c : Cell) (s : State), 2 ≤ v →
    let refused := Host.Outcome.next (φ := Fault) (ρ := Refusal) (answerBare .host c .badarg (taken .host s))
    (∀ numbers, FrontInRun .host codeXTNT c s → c.fields = v :: numbers → exec (.xtnt .host) s = refused) ∧
    (∀ count, FrontInRun .host codePLRD c s → c.fields = [v, count] → exec (.plrd .host) s = refused) ∧
    (∀ setting, FrontInRun .host codeCPWR c s → c.fields = v :: setting → exec (.cpwr .host) s = refused)) ∧
  (∀ (k : CardSlot) (s : State),
    let x := card s k
    let blocks (runs : List Run) : Nat := (runs.map fun r => r.count).sum
    slotStatus s k =
      { state := x.state, power := x.power, detect := match k with | .a => s.pins.detectA | .b => s.pins.detectB
        protect := match k with | .a => s.pins.protectA | .b => s.pins.protectB, capacity := x.capacity
        extents := x.extents.length, blocks := blocks x.extents, records := x.log.length
        write := x.write.map fun w =>
          { number := w.number, rend := w.rend, attempt := w.attempt, done := w.done, planned := blocks w.plan }
        mode := s.cardMode, counters := x.counters }) ∧
  (∀ p : Placement,
    placementBytes p =
      [match p.card with | .a => 0 | .b => 1, match p.rend with | .raw => 0 | .dev => 1 | .prv => 2,
          match p.outcome with | .file => 0 | .void => 1, BitVec.ofNat 8 p.runs.length] ++
        le 4 p.number ++ le 4 p.length ++ (p.runs.map fun r => le 4 r.start ++ le 4 r.count).flatten ∧
      (placementBytes p).length = 12 + 8 * p.runs.length) ∧
  ∀ (v : Nat) (k : CardSlot) (c : Cell) (s : State), slotOfCode v = some k →
    let reply (t : State) :=
      Host.Outcome.next (φ := Fault) (ρ := Refusal) (answer .host c .done (.cardSlot (slotStatus t k)) t)
    let x := card s k
    let at_ (f : Card → Card) : State := updCard k f (taken .host s)
    (FrontInRun .host codeXTNT c s →
      let none_ : Prop := x.state = .empty ∨ x.state = .mounting ∨ x.state = .fault ∨ x.state = .off
      (none_ → (∃ numbers, c.fields = v :: numbers) →
        exec (.xtnt .host) s = .next (answerBare .host c .state (taken .host s))) ∧
      (¬ none_ → (∃ numbers, c.fields = v :: numbers ∧ numbers.length % 2 = 1) →
        exec (.xtnt .host) s = .next (answerBare .host c .badarg (taken .host s))) ∧
      ∀ runs : List Run, ¬ none_ → c.fields = v :: (runs.map fun r => [r.start, r.count]).flatten →
        let apart (a b : Run) : Prop := a.start + a.count ≤ b.start ∨ b.start + b.count ≤ a.start
        let good : Prop :=
          1 ≤ runs.length ∧ runs.length ≤ 5 ∧ runs.Pairwise apart ∧
            ∀ r ∈ runs, 1 ≤ r.count ∧ r.start + r.count ≤ x.capacity.getD 0 ∧ (∀ e ∈ x.extents, apart r e) ∧
              ∀ u ∈ x.used, apart r u
        (¬ good → exec (.xtnt .host) s = .next (answerBare .host c .badarg (taken .host s))) ∧
        (good → 64 < x.extents.length + runs.length →
          exec (.xtnt .host) s = .next (answerBare .host c .full (taken .host s))) ∧
        (good → x.extents.length + runs.length ≤ 64 →
          (x.state ≠ .mounted → x.state ≠ .full →
            exec (.xtnt .host) s = reply (settle (at_ fun y => { y with extents := y.extents ++ runs }))) ∧
          (x.state = .mounted ∨ x.state = .full →
            (x.log.length ≤ 30 →
              exec (.xtnt .host) s =
                reply (settle (at_ fun y => { y with extents := y.extents ++ runs, state := .ready }))) ∧
            (30 < x.log.length →
              exec (.xtnt .host) s =
                reply (settle (raise (.cardStalled k)
                  (at_ fun y => { y with extents := y.extents ++ runs, state := .stalled }))))))) ∧
    (∀ count, FrontInRun .host codePLRD c s → c.fields = [v, count] →
      let gives (t : State) :=
        Host.Outcome.next (φ := Fault) (ρ := Refusal)
          (settle (answer .host c .done (.bytes ((x.log.take count).map placementBytes).flatten) t))
      let left : List Placement := x.log.drop count
      (count = 0 ∨ 32 < count →
        exec (.plrd .host) s = .next (answerBare .host c .badarg (taken .host s))) ∧
      (1 ≤ count → count ≤ 32 →
        (x.state = .stalled → left.length ≤ 30 →
          exec (.plrd .host) s =
            gives (at_ fun y =>
              { y with log := left, state := if y.extents = [] then .mounted else .ready })) ∧
        (x.state = .stalled → 30 < left.length →
          exec (.plrd .host) s = gives (at_ fun y => { y with log := left })) ∧
        (x.state ≠ .stalled → ((x.state = .ready ∨ x.state = .mounted) → left.length ≤ 30) →
          exec (.plrd .host) s = gives (at_ fun y => { y with log := left })))) ∧
    (FrontInRun .host codeCPWR c s →
      (c.fields = [v, 1] →
        (x.state ≠ .off → exec (.cpwr .host) s = reply (taken .host s)) ∧
        (x.state = .off →
          exec (.cpwr .host) s =
            reply (at_ fun y =>
              if cardDetect s k then { y with power := true, state := .mounting, mountTimer := some 1000000 }
              else { y with power := true, state := .empty }))) ∧
      (c.fields = [v, 0] →
        (x.state = .off → exec (.cpwr .host) s = reply (taken .host s)) ∧
        (x.state ≠ .off →
          let off (y : Card) : Card :=
            { y with
              state := .off, power := false, capacity := none, extents := [], used := [], log := [], write := none
              mountTimer := none }
          (∃ t, exec (.cpwr .host) s = reply t ∧ Settles (taken .host s) t ∧ card t k = off x) ∧
          (x.write = none → exec (.cpwr .host) s = reply (settle (redirectFrom k (at_ off)))) ∧
          ∀ w, x.write = some w →
            exec (.cpwr .host) s =
              reply (settle (redirectFrom k (setDuty w.slot (destOfSlot k) w.rend .owed none (at_ off)))))) ∧
      (c.fields = [v] ∨ (∃ p, 2 ≤ p ∧ c.fields = [v, p]) →
        exec (.cpwr .host) s =
          .next (answer .host c .badarg (.cardSlot (slotStatus (taken .host s) k)) (taken .host s))))

/-- R124 to R127, R135, R136, R140: an inserted card mounts in a powered EMPTY slot; the answer makes it MOUNTED, or
WRITE_PROTECTED with its line asserted, and a failure, capacity 0 or the mount timeout is FAULT. Removal empties the
slot, the duty of an active write OWED again, and is only an event in OFF. Write-protect asserted stops an active
write with its VOID record, its duty OWED again; negated, the slot rests again. Over-current is FAULT, in which no
capacity is known and the slot's duties fail. A change of slot A that makes it unwritable redirects in OVERFLOW mode,
FAULT too, in place of failing the duties: each OWED CARD_A duty, by shot in the order of assignment and RAW, DEV,
PRV, first makes a CARD_B duty unless the shot has one (FAILED where slot B is in FAULT) and becomes WAIVED
REDIRECTED. Slot B is never redirected. The mount timeout while its timer still has time to run, a level already
reported, an answer in MOUNTING taken as the present mount's (60.md), over-current in FAULT, the order in which
several duties fail, and the selections at the end: the model's choice (notes/assumptions/2.md, 3.md, 34.md, 50.md,
17.md). -/
def Obligations.CardsMountProtectAndFail : Prop :=
  (∀ (k : CardSlot) (s : State),
    let x := card s k
    (cardDetect s k = true → exec (.cardDetectAsserted k) s = .next s) ∧
    (cardDetect s k = false →
      (x.power = true → x.state = .empty →
        exec (.cardDetectAsserted k) s =
          .next (updCard k (fun y => { y with state := .mounting, mountTimer := some 1000000 })
            (setDetect k true s))) ∧
      (x.power = false ∨ x.state ≠ .empty → exec (.cardDetectAsserted k) s = .next (setDetect k true s)) ∧
      exec (.cardDetectNegated k) s = .next s) ∧
    (cardDetect s k = true →
      (x.state = .off → exec (.cardDetectNegated k) s = .next (raise (.cardRemoved k) (setDetect k false s))) ∧
      (x.state ≠ .off →
        let empty (y : Card) : Card :=
          { y with
            state := .empty, capacity := none, extents := [], used := [], log := [], write := none
            mountTimer := none }
        let u := updCard k empty (setDetect k false s)
        (∃ t, exec (.cardDetectNegated k) s = .next t ∧ Settles (setDetect k false s) t ∧ card t k = empty x) ∧
        (x.write = none →
          exec (.cardDetectNegated k) s = .next (settle (redirectFrom k (raise (.cardRemoved k) u)))) ∧
        ∀ w, x.write = some w →
          exec (.cardDetectNegated k) s =
            .next (settle (redirectFrom k
              (raise (.cardRemoved k) (setDuty w.slot (destOfSlot k) w.rend .owed none u)))))) ∧
    (∀ capacity, x.state ≠ .mounting → exec (.mountAnswer k capacity) s = .next s) ∧
    (∀ capacity, x.state = .mounting →
      (capacity = none ∨ capacity = some 0 →
        exec (.mountAnswer k capacity) s = .next (settle (enterFault k none s))) ∧
      (∀ n : Word32, capacity = some n → n ≠ 0 →
        let ready (st : CardState) : State :=
          raise (.cardReady k)
            (updCard k (fun y =>
              { y with
                state := st, capacity := some n.toNat, extents := [], used := [], log := [], write := none
                mountTimer := none }) s)
        (cardProtect s k = false → exec (.mountAnswer k capacity) s = .next (settle (ready .mounted))) ∧
        (cardProtect s k = true →
          exec (.mountAnswer k capacity) s = .next (settle (redirectFrom k (ready .writeProtected)))))) ∧
    (x.mountTimer = none → exec (.mountTimeout k) s = .next s) ∧
    (∀ n, x.mountTimer = some n →
      exec (.mountTimeout k) s = .next (settle (enterFault k none (elapse n s)))) ∧
    (∀ level, cardProtect s k = level → exec (.writeProtectChange k level) s = .next s) ∧
    (cardProtect s k = false →
      let u := setProtect k true s
      (x.state = .mounted ∨ x.state = .ready ∨ x.state = .full ∨ x.state = .stalled →
        exec (.writeProtectChange k true) s =
          .next (settle (redirectFrom k (updCard k (fun y => { y with state := .writeProtected }) u)))) ∧
      (∀ w, x.state = .writing → x.write = some w →
        exec (.writeProtectChange k true) s =
          .next (settle (redirectFrom k
            (updCard k (fun y => { y with state := .writeProtected })
              (setDuty w.slot (destOfSlot k) w.rend .owed none (stopWrite k w u)))))) ∧
      (x.state = .empty ∨ x.state = .mounting ∨ x.state = .fault ∨ x.state = .off →
        exec (.writeProtectChange k true) s = .next (settle u))) ∧
    (cardProtect s k = true →
      let u := setProtect k false s
      let rest := if x.extents = [] then CardState.mounted else .ready
      (x.state = .writeProtected →
        (x.log.length ≤ 30 →
          exec (.writeProtectChange k false) s =
            .next (settle (updCard k (fun y => { y with state := rest }) u))) ∧
        (30 < x.log.length →
          exec (.writeProtectChange k false) s =
            .next (settle (raise (.cardStalled k) (updCard k (fun y => { y with state := .stalled }) u))))) ∧
      (x.state ≠ .writeProtected → exec (.writeProtectChange k false) s = .next (settle u))) ∧
    (x.state = .empty ∨ x.state = .off → exec (.overCurrent k) s = .next s) ∧
    (x.state ≠ .empty → x.state ≠ .off →
      (x.write = none → exec (.overCurrent k) s = .next (settle (enterFault k none s))) ∧
      (∀ w, x.write = some w →
        exec (.overCurrent k) s = .next (settle (enterFault k (some w) (stopWrite k w s)))))) ∧
  (∀ (k : CardSlot) (ended : Option ActiveWrite) (s : State),
    let t := enterFault k ended s
    let fault :=
      updCard k (fun y => { y with state := .fault, capacity := none, write := none, mountTimer := none }) s
    let allFail (u : State) : State :=
      raise (.cardFault k)
        ((owedDuties (destOfSlot k) u).foldl
          (fun v p => endDuty p.1 (destOfSlot k) p.2 .failed (some .cardFault) v) u)
    card t k = { card s k with state := .fault, capacity := none, write := none, mountTimer := none } ∧ Records s t ∧
      ((k = .a → s.cardMode = .independent) →
        (ended = none → t = allFail fault) ∧
        ∀ w, ended = some w → t = allFail (endDuty w.slot (destOfSlot k) w.rend .failed (some .cardFault) fault)) ∧
      (k = .a → s.cardMode = .overflow →
        (ended = none → t = raise (.cardFault k) (redirectAll fault)) ∧
        ∀ w, ended = some w → t = raise (.cardFault k) (redirectAll (redirectDuty (w.slot, w.rend) fault)))) ∧
  (∀ s : State,
    let unwritableA : Prop :=
      s.cardA.state = .full ∨ s.cardA.state = .fault ∨ s.cardA.state = .empty ∨ s.cardA.state = .writeProtected ∨
        s.cardA.state = .off
    redirectFrom .b s = s ∧ redirectFrom .a s = redirectAll s ∧
    (s.cardMode = .independent ∨ ¬ unwritableA → redirectAll s = s) ∧
    (s.cardMode = .overflow → unwritableA →
      redirectAll s = (owedDuties .cardA s).foldl (fun u p => redirectDuty p u) s)) ∧
  (∀ (slot : Nat) (r : Rendition) (s : State),
    let made : Duty :=
      { dest := .cardB, rend := r, state := if s.cardB.state = .fault then .failed else .owed
        reason := if s.cardB.state = .fault then some .cardFault else none, created := s.control.timeBase
        expiry := none }
    redirectDuty (slot, r) s =
      endDuty slot .cardA r .waived (some .redirected)
        (updShot slot
          (fun x =>
            if x.duties.any fun y => y.dest == .cardB && y.rend == r then x
            else { x with duties := x.duties ++ [made] }) s)) ∧
  ∀ (d : Dest) (s : State), ∃ xs : List Shot,
    xs.Perm (s.store.shots.filter fun x => x.number.isSome) ∧
      (xs.Pairwise fun x y => shotKey s x ≤ shotKey s y) ∧
      owedDuties d s =
        xs.flatMap fun x =>
          (([.raw, .dev, .prv] : List Rendition).filter fun r =>
            x.duties.any fun y => y.dest == d && y.rend == r && y.state == .owed).map fun r => (x.slot, r)

/-- R128, R130 to R134, R136, R137: a READY slot takes the eligible duty of the lowest shot number in the order of
assignment (OWED, its rendition READY; within a shot RAW, DEV, PRV) and writes it into at most eight runs from the
front of its extents, or is FULL; what it sends is the plan's next block, of the write's bytes in order. Each block
done sends the next with a fresh timer; the last makes the FILE record and the duty MET. A first failed block voids
the extents up to it and the write restarts or is FULL, its duty OWED again; a second, or the write timer, is FAULT as
over-current is: its duty and the slot's OWED ones FAILED or redirected, CARD_FAULT latched. A stopped write is voided
up to the block last sent and PLACEMENT_READY latches; one stopped by a waiver leaves its duty WAIVED and the slot
READY, MOUNTED or STALLED. A report of another block than the one sent last changes nothing. The expiry while the
timer still has time to run, the timer that does not run, the number a report carries, and the selections at the end:
the model's choice (notes/assumptions/2.md, 3.md, 36.md, 17.md). -/
def Obligations.CardWritesAreRecorded : Prop :=
  (∀ (n k : Nat) (extents : List Run),
    (fitRuns n k extents = none ↔ blockCount (extents.take k) < n) ∧
    ∀ plan, fitRuns n k extents = some plan → blockCount plan = n ∧ plan.length ≤ k ∧
      (n ≠ 0 →
        ∃ front e rest c, extents = front ++ e :: rest ∧ 1 ≤ c ∧ c ≤ e.count ∧
          plan = front ++ [{ start := e.start, count := c }] ∧
          dropBlocks n extents =
            if c < e.count then { start := e.start + c, count := e.count - c } :: rest else rest)) ∧
  (∀ (n : Nat) (plan : List Run), 1 ≤ n → n ≤ blockCount plan →
    ∃ front e rest c, plan = front ++ e :: rest ∧ 1 ≤ c ∧ c ≤ e.count ∧ blockCount front + c = n ∧
      cutRuns n plan = front ++ [{ start := e.start, count := c }]) ∧
  (∀ (d : Dest) (s : State),
    let may (x : Shot) (r : Rendition) : Prop :=
      (rendOf x r).state = .ready ∧ ∃ y ∈ x.duties, y.dest = d ∧ y.rend = r ∧ y.state = .owed
    (eligible d s = none ↔ ∀ x ∈ s.store.shots, x.number ≠ none → ∀ r, ¬ may x r) ∧
    ∀ x r, eligible d s = some (x, r) →
      x ∈ s.store.shots ∧ x.number ≠ none ∧ may x r ∧ (r ≠ .raw → ¬ may x .raw) ∧ (r = .prv → ¬ may x .dev) ∧
        ∀ y ∈ s.store.shots, y.number ≠ none → (∃ r', may y r') → shotKey s x ≤ shotKey s y) ∧
  (∀ (k : CardSlot) (s : State),
    (((card s k).state ≠ .ready ∨ eligible (destOfSlot k) s = none) → selectCard k s = s) ∧
    ∀ x r, (card s k).state = .ready → eligible (destOfSlot k) s = some (x, r) →
      let header := headerBytes x r
      let length := header.length + (rendOf x r).length
      (∀ plan, fitRuns (blocksFor length) 8 (card s k).extents = some plan →
        selectCard k s =
          updCard k (fun y =>
            { y with
              state := .writing
              write := some
                { slot := x.slot, number := orZero x.number, rend := r, plan, header, length, attempt := 1, done := 0
                  timer := some 1000000 } })
            (setDuty x.slot (destOfSlot k) r .active none s)) ∧
      (fitRuns (blocksFor length) 8 (card s k).extents = none →
        selectCard k s =
          redirectFrom k (raise (.cardFull k) (updCard k (fun y => { y with state := .full }) s)))) ∧
  (∀ (k : CardSlot) (w : ActiveWrite) (s : State), (card s k).write = some w → w.done < blockCount w.plan →
    ∃ before r after, w.plan = before ++ r :: after ∧ blockCount before ≤ w.done ∧
      w.done < blockCount before + r.count ∧
      ∃ data, sentBlock s k = some (r.start + (w.done - blockCount before), data) ∧ data.length = 65536 ∧
        ∀ i, i < 65536 → w.done * 65536 + i < w.length →
          data[i]? = some (transferByte w.header (storedContent s w.slot w.rend) (w.done * 65536 + i))) ∧
  ∀ (k : CardSlot) (block : Word32) (s : State),
    let x := card s k
    (x.write = none →
      exec (.blockComplete { slot := k, block }) s = .next s ∧ exec (.blockFailed { slot := k, block }) s = .next s ∧
        exec (.writeTimerExpiry k) s = .next s) ∧
    ∀ w, x.write = some w →
      let sent : Prop :=
        ∃ before r after, w.plan = before ++ r :: after ∧ blockCount before ≤ w.done ∧
          w.done < blockCount before + r.count ∧ block.toNat = r.start + (w.done - blockCount before)
      let duty (st : DutyState) (u : State) : State := setDuty w.slot (destOfSlot k) w.rend st none u
      let record (o : PlacementOutcome) (runs : List Run) : Placement :=
        { card := k, rend := w.rend, outcome := o, number := w.number, length := if o = .file then w.length else 0
          runs }
      (¬ sent → exec (.blockComplete { slot := k, block }) s = .next s ∧ exec (.blockFailed { slot := k, block }) s = .next s) ∧
      (sent → w.done + 1 < blockCount w.plan →
        exec (.blockComplete { slot := k, block }) s =
          .next (updCard k
            (fun y => { y with write := some { w with done := w.done + 1, timer := some 1000000 } }) s)) ∧
      (sent → blockCount w.plan ≤ w.done + 1 →
        let left := dropBlocks (blockCount w.plan) x.extents
        let filed : State :=
          updCard k
            (fun y => { y with log := x.log ++ [record .file w.plan], used := x.used ++ w.plan, extents := left, write := none })
            s
        let met := endDuty w.slot (destOfSlot k) w.rend .met none filed
        let noted :=
          raise (.placementReady k)
            (updCard k (fun y => { y with counters := { y.counters with completed := satInc y.counters.completed } }) met)
        let rests (st : CardState) : State := updCard k (fun y => { y with state := st }) noted
        ∃ t, exec (.blockComplete { slot := k, block }) s = .next (settle t) ∧ Records s t ∧
          t =
            (if 30 < x.log.length + 1 then raise (.cardStalled k) (rests .stalled)
             else if left = [] then rests .mounted else rests .ready) ∧
          card t k =
            { x with
              log := x.log ++ [record .file w.plan], used := x.used ++ w.plan, extents := left, write := none
              counters := { x.counters with completed := satInc x.counters.completed }
              state :=
                if 30 < x.log.length + 1 then .stalled
                else if left = [] then .mounted else .ready }) ∧
      (sent → w.attempt = 1 →
        let j := runIndex w.done w.plan + 1
        let after := x.extents.drop j
        let counted := { x.counters with errors := satInc x.counters.errors, voids := satInc x.counters.voids }
        let noted : State :=
          updCard k (fun y => { y with counters := counted })
            (raise (.placementReady k)
              (updCard k
                (fun y => { y with
                  log := x.log ++ [record .void (x.extents.take j)], used := x.used ++ x.extents.take j
                  extents := after })
                s))
        ∃ t, exec (.blockFailed { slot := k, block }) s = .next (settle t) ∧ Records s t ∧
          (card t k).log = x.log ++ [record .void (x.extents.take j)] ∧ (card t k).extents = after ∧
          (card t k).used = x.used ++ x.extents.take j ∧ (card t k).counters = counted ∧
          (∀ plan, fitRuns (blocksFor w.length) 8 after = some plan →
            t =
              updCard k (fun y =>
                { y with write := some { w with plan, attempt := 2, done := 0, timer := some 1000000 } }) noted) ∧
          (fitRuns (blocksFor w.length) 8 after = none →
            (card t k).state = .full ∧ (card t k).write = none ∧
              t =
                redirectFrom k
                  (raise (.cardFull k)
                    (updCard k (fun y => { y with state := .full, write := none }) (duty .owed noted))))) ∧
      (let runs := cutRuns (w.done + 1) w.plan
       let voided (u : State) : Prop :=
         (card u k).log = x.log ++ [record .void runs] ∧ (card u k).used = x.used ++ runs ∧
           (card u k).extents = dropBlocks (blockCount runs) x.extents ∧ (card u k).write = none
       voided (stopWrite k w s) ∧
       stopWrite k w s =
         raise (.placementReady k)
           (updCard k
             (fun y => { y with
               log := x.log ++ [record .void runs], used := x.used ++ runs
               extents := dropBlocks (blockCount runs) x.extents, write := none
               counters := { x.counters with voids := satInc x.counters.voids } }) s) ∧
       (∀ reason,
         let u := endDuty w.slot (destOfSlot k) w.rend .waived (some reason) (stopWrite k w s)
         let rests (st : CardState) : State := updCard k (fun y => { y with state := st }) u
         waiveWrite k w reason s =
           (if 30 < x.log.length + 1 then raise (.cardStalled k) (rests .stalled)
            else if dropBlocks (blockCount runs) x.extents = [] then rests .mounted else rests .ready)) ∧
       let counts (c : CardCounters) (u : State) : State := updCard k (fun y => { y with counters := c }) u
       (sent → w.attempt ≠ 1 →
         ∃ t, exec (.blockFailed { slot := k, block }) s = .next (settle t) ∧ Records s t ∧ voided t ∧
           (card t k).state = .fault ∧ (card t k).counters.errors = satInc x.counters.errors ∧
           t =
             enterFault k (some w)
               (counts { x.counters with voids := satInc x.counters.voids, errors := satInc x.counters.errors }
                 (stopWrite k w s))) ∧
       (∀ n, w.timer = some n →
         ∃ t, exec (.writeTimerExpiry k) s = .next (settle t) ∧ Records (elapse n s) t ∧ voided t ∧
           (card t k).state = .fault ∧ (card t k).counters.timeouts = satInc x.counters.timeouts ∧
           t =
             enterFault k (some { w with timer := some 0 })
               (stopWrite k { w with timer := some 0 }
                 (counts { x.counters with timeouts := satInc x.counters.timeouts } (elapse n s)))) ∧
       (w.timer = none → exec (.writeTimerExpiry k) s = .next s))

/-! ## Tether (08) -/

/-- R145, R146, R148, R149, R161 to R163: the link. Link up with power on takes DOWN to LINKED, NOT_BOUND and the
negotiation timer running; link down takes any state to DOWN, a binding ending LOST with TETHER_LOST. The end of a
binding, by ECHO and TRST too, stops mirror, silence timer and transfer, whose duty is OWED again or, past its expiry
time, WAIVED EXPIRED. R160: a transfer stopped by a waiver makes an ABORT ready and its duty WAIVED. ECHO on is STATE
in DOWN, ends a binding NOT_BOUND and stops the negotiation timer; off returns to LINKED. MIRR switches the mirror.
TRST ends a binding, links afresh, and clears mirror, desk address and the desk channel, which keeps its counters. A
negotiation timeout is the result TIMEOUT, and silence ends the binding LOST with TETHER_LOST. The expiry while the
timer still has time to run, and where it does not run: the model's choice (notes/assumptions/2.md, 3.md). R164: every
answer of ECHO carries the tether status, that of a BADARG too (48.md). What becomes of ready frames, the mode and the
window, that link and desk address are cleared before the duty returns, the selections at the end, and the numbers of
on and off: the model's choice (notes/assumptions/18.md, 44.md, 45.md, 35.md, 17.md, 5.md). R164: the tether status
holds every field that the rule lists, the transfer queue from its front among them; its layout: 6.md. -/
def Obligations.TetherLinksEchoesAndResets : Prop :=
  (∀ s : State,
    let x := s.tether
    tetherStatus s =
      { link := x.link, etherUp := s.pins.etherUp, settings := x.settings, desk := x.desk, mode := x.mode
        window := x.window, result := x.result, mirror := x.mirrorOn
        mirrorFrame := x.mirror.map fun m => (m.sequence, m.sent)
        transfer := x.transfer.map fun t =>
          { number := t.number, rend := t.rend, phase := t.phase, length := t.length, acked := t.acked, next := t.next
            expiries := t.expiries }
        queue := (transferQueue s).map fun e => (e.1.number.getD 0, e.2), counters := x.counters }) ∧
  ∀ s : State, TetherLegal s.tether →
    let x := s.tether
    let linked (b t : State) : Prop :=
      t.tether.link = .linked ∧ t.tether.result = .notBound ∧ t.tether.mode = none ∧ t.tether.window = 0 ∧
        t.tether.negTimer = some (x.settings.negotiation * 1000000) ∧ t.tether.settings = b.tether.settings
    let unbound (t : State) : Prop :=
      t.tether.desk = none ∧ t.tether.transfer = none ∧ t.tether.silenceTimer = none
    let lost (t : State) : State :=
      raise .tetherLost { t with tether := { t.tether with mode := none, window := 0, result := .lost } }
    (let open_ : State :=
       { s with
         tether := { x with
           link := .linked, desk := none, silenceTimer := none, mirrorOn := false, mirror := none, transfer := none } }
     (x.transfer = none → endBinding s = open_) ∧
     ∀ y d, x.transfer = some y → (shotAt s y.slot).bind (fun z => dutyOf z .desk y.rend) = some d →
       ((∃ e, d.expiry = some e ∧ e ≤ s.control.timeBase) →
         endBinding s = endDuty y.slot .desk y.rend .waived (some .expired) open_) ∧
       (d.expiry = none ∨ (∃ e, d.expiry = some e ∧ s.control.timeBase < e) →
         endBinding s = setDuty y.slot .desk y.rend .owed none open_)) ∧
    (∀ y reason d, x.transfer = some y → x.desk = some d →
      stopTransfer y reason s =
        endDuty y.slot .desk y.rend .waived (some reason)
          { s with
            tether := { x with
              transfer := none
              ready := x.ready ++
                [{ dst := d, src := x.settings.station, frameType := x.settings.frameType
                   body := .abort y.number y.rend }] } }) ∧
    (s.pins.etherUp = true → exec .ethernetLinkUp s = .next s) ∧
    (s.pins.etherUp = false → exec .ethernetLinkDown s = .next s ∧
      let up : State := { s with pins := { s.pins with etherUp := true } }
      (x.link ≠ .down ∨ x.settings.power = false → exec .ethernetLinkUp s = .next up) ∧
      (x.link = .down → x.settings.power = true →
        ∃ t, exec .ethernetLinkUp s = .next t ∧ linked s t ∧ t = { up with tether := t.tether })) ∧
    (s.pins.etherUp = true →
      ∃ t, exec .ethernetLinkDown s = .next t ∧ t.tether.link = .down ∧ t.tether.negTimer = none ∧ unbound t ∧
        t.pins = { s.pins with etherUp := false } ∧ (x.link = .bound → t.tether.result = .lost) ∧
        (x.link ≠ .bound → t.tether.result = x.result) ∧
        Settles { s with pins := { s.pins with etherUp := false }, tether := t.tether } t) ∧
    (s.pins.etherUp = true → x.link = .bound →
      let u := endBinding { s with pins := { s.pins with etherUp := false } }
      exec .ethernetLinkDown s =
        .next (settle (lost
          { u with
            tether := { u.tether with
              link := .down, negTimer := none, silenceTimer := none, ready := [] } }))) ∧
    (x.negTimer = none → exec .negotiationTimerExpiry s = .next s) ∧
    (∀ k, x.negTimer = some k →
      exec .negotiationTimerExpiry s =
        .next { elapse k s with
          tether := { (elapse k s).tether with result := .timeout, negTimer := none } }) ∧
    (x.silenceTimer = none → exec .silenceTimerExpiry s = .next s) ∧
    (∀ k, x.silenceTimer = some k →
      ∃ t, exec .silenceTimerExpiry s = .next t ∧ t.tether.link = .linked ∧ t.tether.result = .lost ∧ unbound t ∧
        t.tether.mirrorOn = false ∧ t.tether.negTimer = none ∧
        Settles { elapse k s with tether := t.tether } t ∧ t = settle (lost (endBinding (elapse k s)))) ∧
    (∀ c v, FrontInRun .desk codeMIRR c s → c.fields = [v] →
      (v = 1 →
        exec (.mirr .desk) s =
          .next (answerBare .desk c .done { taken .desk s with tether := { x with mirrorOn := true } })) ∧
      (v = 0 →
        exec (.mirr .desk) s =
          .next (answerBare .desk c .done
            { taken .desk s with tether := { x with mirrorOn := false, mirror := none } })) ∧
      (2 ≤ v → exec (.mirr .desk) s = .next (answerBare .desk c .badarg (taken .desk s)))) ∧
    (∀ c, FrontInRun .host codeECHO c s → (∀ v, c.fields ≠ [v]) →
      exec (.echo .host) s =
        .next (answer .host c .badarg (.tether (tetherStatus (taken .host s))) (taken .host s))) ∧
    (∀ c v, FrontInRun .host codeECHO c s → c.fields = [v] →
      let refused (st : Status) : Prop :=
        exec (.echo .host) s = .next (answer .host c st (.tether (tetherStatus (taken .host s))) (taken .host s))
      let echo (t : State) : Prop := exec (.echo .host) s = .next (answer .host c .done (.tether (tetherStatus t)) t)
      (v = 1 →
        (x.link = .down → refused .state) ∧
        (x.link = .echo → echo (taken .host s)) ∧
        (x.link = .linked →
          echo { taken .host s with tether := { x with link := .echo, negTimer := none } }) ∧
        (x.link = .bound →
          let u := endBinding (taken .host s)
          ∃ t, echo t ∧ t.tether.link = .echo ∧ t.tether.result = .notBound ∧ t.tether.negTimer = none ∧ unbound t ∧
            Settles { taken .host s with tether := t.tether } t ∧
            t =
              settle { u with
                tether := { u.tether with
                  link := .echo, negTimer := none, mode := none, window := 0, result := .notBound } })) ∧
      (v = 0 →
        (x.link ≠ .echo → echo (taken .host s)) ∧
        (x.link = .echo → ∃ t, echo t ∧ linked s t ∧ t = { taken .host s with tether := t.tether })) ∧
      (2 ≤ v → refused .badarg)) ∧
    ∀ c, FrontInRun .host codeTRST c s →
      ∃ t, exec (.trst .host) s = .next (answer .host c .done (.tether (tetherStatus t)) t) ∧ unbound t ∧
        t.tether.mirrorOn = false ∧ t.tether.mirror = none ∧ t.tether.result = .notBound ∧
        (s.pins.etherUp = true → x.settings.power = true → linked s t) ∧
        (s.pins.etherUp = false ∨ x.settings.power = false →
          t.tether.link = .down ∧ t.tether.negTimer = none) ∧
        t.deskChan = { s.deskChan with queue := [], latches := 0, mask := 0, notice := false } ∧
        t.tether.counters = x.counters ∧
        Settles { taken .host s with tether := t.tether, deskChan := t.deskChan } t ∧
        let u := if x.link = .bound then endBinding (taken .host s) else taken .host s
        let cleared (y : Tether) : State :=
          settle { u with
            tether := { y with mode := none, window := 0, result := .notBound, mirrorOn := false, mirror := none, desk := none }
            deskChan := { u.deskChan with queue := [], latches := 0, mask := 0, notice := false } }
        (s.pins.etherUp = true → x.settings.power = true →
          t =
            cleared { u.tether with link := .linked, negTimer := some (x.settings.negotiation * 1000000) }) ∧
        (s.pins.etherUp = false ∨ x.settings.power = false →
          t = cleared { u.tether with link := .down, negTimer := none, silenceTimer := none, ready := [] })

/-- R143, R147, R149, R150, R153, R156, R159, R162: received frames. A frame not for the part, or in DOWN, is ignored,
and in ECHO returned to its source. An OFFER ends a binding, stops the negotiation timer, and binds in the first mode
of the preference list that it names, or is refused; the ANSWER is made ready for its source, and at a binding
TETHER_BOUND latches and the desk channel sends its NOTICE behind it. A CONTROL frame's cell is taken as a command
cell of the desk channel. ACK, ABORT and CONTROL are discarded in LINKED and counted foreign from another station in
BOUND; an ACK resumes or advances the transfer it names or is counted ignored, and at its end the duty is MET; an
ABORT waives the duty. Malformed and unexpected frames are counted, and each frame of the desk reloads the silence
timer. The other bits of an OFFER's modes are ignored, and an OFFER in BOUND keeps the frames already ready; a resume
ACK drops an ANNOUNCE that waits for the port, the first or a repeated one, and the binding's end clears link and desk
first; selection follows at the end (the model's choice, notes/assumptions/46.md, 45.md, 35.md, 17.md). -/
def Obligations.TetherFramesAreHandledByLinkState : Prop :=
  let body (e : Envelope) (i : Instr) : Prop :=
    (∃ modes limit, i = .offer e modes limit) ∨ (∃ n r o, i = .ack e n r o) ∨ (∃ n r, i = .abort e n r) ∨
      (∃ c, i = .control e c) ∨ i = .idle e ∨ (∃ b, i = .malformedTetherFrame e b) ∨
      ∃ b, i = .unexpectedTetherFrame e b
  let counted (f : TetherCounters → TetherCounters) (s : State) : State :=
    { s with tether := { s.tether with counters := f s.tether.counters } }
  (∀ (e : Envelope) (n o : Word32) (r modes limit : Byte) (c : Cell) (b : List Byte),
    receivedBody (.offer e modes limit) = [1, modes, limit] ++ e.padding ∧
    receivedBody (.ack e n r o) = [5] ++ le 4 n.toNat ++ [r] ++ le 4 o.toNat ++ e.padding ∧
    receivedBody (.abort e n r) = [6] ++ le 4 n.toNat ++ [r] ++ e.padding ∧
    receivedBody (.control e c) =
      [7, c.kind, c.tag] ++ (le 4 c.code.toNat).reverse ++
        [c.status, BitVec.ofNat 8 (c.argLen.toNat + if c.continued then 128 else 0)] ++ c.args ++ e.padding ∧
    receivedBody (.idle e) = [9] ++ e.padding ∧ receivedBody (.malformedTetherFrame e b) = b ++ e.padding ∧
    receivedBody (.unexpectedTetherFrame e b) = b ++ e.padding) ∧
  (∀ (e : Envelope) (i : Instr) (s : State), body e i →
    (takesFrame s e = true ↔
      s.tether.link ≠ .down ∧ e.frameType = s.tether.settings.frameType ∧
        (e.dst = s.tether.settings.station ∨ e.dst = 0xFFFFFFFFFFFF)) ∧
    (takesFrame s e = false → exec i s = .next s) ∧
    (takesFrame s e = true → s.tether.link = .echo →
      exec i s =
        .next (counted (fun c => { c with echoed := satInc c.echoed })
          { s with
            tether := { s.tether with
              ready := s.tether.ready ++
                [{ dst := e.src, src := if e.dst = 0xFFFFFFFFFFFF then s.tether.settings.station else e.dst
                   frameType := e.frameType, body := .echoed (receivedBody i) }] } }))) ∧
  ∀ (e : Envelope) (s : State), takesFrame s e = true → s.tether.link ≠ .echo →
    let fromTheDesk : Prop := s.tether.link = .bound ∧ s.tether.desk = some e.src
    let heard : State :=
      if fromTheDesk then
        { s with
          tether := { s.tether with silenceTimer := some (s.tether.settings.silence * 1000000) } }
      else s
    let malformed := counted (fun c => { c with malformed := satInc c.malformed }) heard
    let unexpected := counted (fun c => { c with unexpected := satInc c.unexpected }) heard
    let foreign := counted (fun c => { c with foreign := satInc c.foreign }) heard
    let ignored := counted (fun c => { c with ignoredAcks := satInc c.ignoredAcks }) heard
    (∀ b, exec (.malformedTetherFrame e b) s = .next malformed) ∧
    (∀ b, exec (.unexpectedTetherFrame e b) s = .next unexpected) ∧
    (s.tether.link = .linked → exec (.idle e) s = .next s ∧ ∀ c, exec (.control e c) s = .next unexpected) ∧
    (s.tether.link = .bound → s.tether.desk ≠ some e.src →
      exec (.idle e) s = .next foreign ∧ ∀ c, exec (.control e c) s = .next foreign) ∧
    (fromTheDesk → exec (.idle e) s = .next heard ∧ ∀ c, exec (.control e c) s = .next (takeCell .desk c heard)) ∧
    (∀ c, exec (.commandCell .desk c) heard = .next (takeCell .desk c heard)) ∧
    (∀ (n : Word32) (code : Byte) (offset : Word32), 3 ≤ code.toNat →
      exec (.ack e n code offset) s = .next malformed ∧ exec (.abort e n code) s = .next malformed) ∧
    (∀ (n : Word32) (r : Rendition) (code : Byte) (offset : Word32), rendOfCode code.toNat = some r →
      (s.tether.link = .linked →
        exec (.ack e n code offset) s = .next unexpected ∧ exec (.abort e n code) s = .next unexpected) ∧
      (s.tether.link = .bound → s.tether.desk ≠ some e.src →
        exec (.ack e n code offset) s = .next foreign ∧ exec (.abort e n code) s = .next foreign) ∧
      (fromTheDesk →
        (s.tether.transfer = none ∨
            (∃ t, s.tether.transfer = some t ∧ (t.number ≠ n.toNat ∨ t.rend ≠ r)) →
          exec (.ack e n code offset) s = .next (settle ignored) ∧
            exec (.abort e n code) s = .next (settle unexpected)) ∧
        ∀ t, s.tether.transfer = some t → t.number = n.toNat → t.rend = r →
          let none_ : State := { heard with tether := { heard.tether with transfer := none } }
          let o := offset.toNat
          let boundary : Prop := o % 1408 = 0 ∨ o = t.length
          let good : Prop :=
            boundary ∧ ((t.phase = .announced ∧ o ≤ t.length) ∨ (t.phase = .sending ∧ t.acked < o ∧ o ≤ t.highest))
          exec (.abort e n code) s =
            .next (settle (endDuty t.slot .desk r .waived (some .deskDeclined) none_)) ∧
          (¬ good → exec (.ack e n code offset) s = .next (settle ignored)) ∧
          (good → o = t.length →
            ∃ u, exec (.ack e n code offset) s = .next (settle u) ∧
              u = counted (fun c => { c with completed := satInc c.completed })
                (raise .deskDelivered (endDuty t.slot .desk r .met none none_))) ∧
          (good → o ≠ t.length → t.phase = .announced →
            exec (.ack e n code offset) s =
              .next (settle { heard with
                tether := { heard.tether with
                  transfer := some { t with
                    phase := .sending, announceReady := false, acked := o, next := o, highest := o, expiries := 0
                    timer := none } } })) ∧
          (good → o ≠ t.length → t.phase = .sending →
            exec (.ack e n code offset) s =
              .next (settle { heard with
                tether := { heard.tether with
                  transfer := some { t with
                    acked := o, next := max t.next o, expiries := 0
                    timer :=
                      if o < max t.next o then some (s.tether.settings.acknowledgement * 1000) else none } } })))) ∧
    ∀ modes limit : Byte, TetherLegal s.tether → s.tether.link = .linked ∨ s.tether.link = .bound →
      let named (m : Mode) : Prop :=
        match m with
        | .windowed => modes.getLsbD 0 = true
        | .basic => modes.getLsbD 1 = true
        | .preview => modes.getLsbD 2 = true
      let preferred (m : Mode) : Prop :=
        named m ∧ ∃ before after, s.tether.settings.preferences = before ++ m :: after ∧ ∀ k ∈ before, ¬ named k
      let unbound := if s.tether.link = .bound then endBinding s else s
      let answers (body : FrameBody) : TetherFrame :=
        { dst := e.src, src := s.tether.settings.station, frameType := s.tether.settings.frameType, body }
      (∀ m, 1 ≤ limit.toNat → limit.toNat ≤ 16 → preferred m →
        let window := if m = .windowed then min 16 limit.toNat else 1
        exec (.offer e modes limit) s =
            .next (settle (notifyIfLatched .desk (raise .tetherBound
              { unbound with
                tether := { unbound.tether with
                  link := .bound, desk := some e.src, mode := some m, window, result := .bound m, negTimer := none
                  silenceTimer := some (s.tether.settings.silence * 1000000)
                  ready := s.tether.ready ++ [answers (.answer true (some m) window)] } }))) ∧
        ∃ t, exec (.offer e modes limit) s = .next t ∧ t.tether.link = .bound ∧ t.tether.desk = some e.src ∧
          t.tether.mode = some m ∧ t.tether.result = .bound m ∧ t.tether.negTimer = none ∧
          t.tether.window = (if m = .windowed then min 16 limit.toNat else 1) ∧
          t.tether.silenceTimer = some (s.tether.settings.silence * 1000000) ∧
          (∃ more, t.tether.ready = s.tether.ready ++ answers (.answer true (some m) window) :: more ∧
            ∀ f ∈ more, ∃ c, f.body = .control c) ∧
          Settles { s with tether := t.tether } t) ∧
      (limit.toNat = 0 ∨ 16 < limit.toNat ∨ (∀ m ∈ s.tether.settings.preferences, ¬ named m) →
        ∃ t, exec (.offer e modes limit) s = .next t ∧ t.tether.link = .linked ∧ t.tether.result = .refused ∧
          t.tether.desk = none ∧ t.tether.negTimer = none ∧ t.tether.silenceTimer = none ∧
          t.tether.ready = s.tether.ready ++ [answers (.answer false none 0)] ∧
          t =
            settle { unbound with
              tether := { unbound.tether with
                link := .linked, mode := none, window := 0, result := .refused, negTimer := none
                ready := s.tether.ready ++ [answers (.answer false none 0)] } } ∧
          Settles { s with tether := t.tether } t)

/-- R152 to R157, R161: the transfer. In BOUND without one, the first entry of the queue whose rendition is READY (in
PREVIEW mode a PRV) starts ANNOUNCED; the queue holds each OWED DESK duty, by editor priority, highest first, by the
rendition rank, and by shot number in the order of assignment. The port takes the oldest control frame first, then in
BOUND the ANNOUNCE or the next BLOCK within the window, then a MIRROR fragment, each in the layout of 10 section 10.3;
with nothing ready or in DOWN it takes none. The acknowledgement timer repeats the ANNOUNCE or goes back to the
acknowledged offset, and at the third expiry ends the binding LOST with TETHER_LOST. The expiry while the timer still
has time to run, and where it does not run: the model's choice (notes/assumptions/2.md, 3.md). So are the addressing
of a frame as the port takes it, mode none and window 0 after the third expiry, and the selections at the end (35.md,
44.md, 17.md). R153, 10 section 10.4: the rendition header is its own length, the rendition, level 2, the shot
summary, the readout or development block and the chain, and offsets count from its first byte. The bytes of a MIRROR
fragment are those of the live frame: 11.md, 53.md. -/
def Obligations.TransfersAreAnnouncedSentAndRepeated : Prop :=
  (∀ (dst src : Addr48) (ty : Word16) (b : FrameBody),
    frameBytes { dst, src, frameType := ty, body := b } =
      (le 6 dst.toNat).reverse ++ (le 6 src.toNat).reverse ++ le 2 ty.toNat ++ bodyBytes b) ∧
  (∀ (n length offset window : Nat) (r : Rendition) (m : Mode) (data summary chain : List Byte) (c : OutCell),
    let code := BitVec.ofNat 8 (match r with | .raw => 0 | .dev => 1 | .prv => 2)
    let mode := BitVec.ofNat 8 (match m with | .windowed => 1 | .basic => 2 | .preview => 3)
    bodyBytes (.answer true (some m) window) = [2, 0, mode, BitVec.ofNat 8 window] ∧
    bodyBytes (.answer false none 0) = [2, 1, 0, 0] ∧
    bodyBytes (.announce n r length summary chain) =
      [3] ++ le 4 n ++ [code] ++ le 4 length ++ le 2 summary.length ++ le 2 chain.length ++ summary ++ chain ∧
    bodyBytes (.block n r offset data) = [4] ++ le 4 n ++ [code] ++ le 4 offset ++ le 2 data.length ++ data ∧
    bodyBytes (.abort n r) = [6] ++ le 4 n ++ [code] ∧ bodyBytes (.control c) = 7 :: cellBytes c ∧
    bodyBytes (.mirror n length offset data) =
      [8] ++ le 4 n ++ le 4 length ++ le 4 offset ++ le 2 data.length ++ data) ∧
  (∀ (x : Shot) (r : Rendition),
    let flags (l : List Bool) : List Byte := [BitVec.ofNat 8 (l.foldr (fun b k => b.toNat + 2 * k) 0)]
    let code (k : Rendition) : Byte := match k with | .raw => 0 | .dev => 1 | .prv => 2
    let source (k : Source) : Byte := match k with | .sensor => 0 | .pattern => 1 | .inject => 2
    let close (k : CloseKind) : Byte := match k with | .normal => 0 | .nextStart => 1 | .stale => 2 | .source => 3
    let header (own : List Byte) : List Byte :=
      le 2 (headerBytes x r).length ++ [code r, 2] ++ summaryBytes x ++ own ++
        (x.chain.map fun e => le 2 (4 + e.data.length) ++ le 2 e.ident ++ e.data).flatten ++ [0, 0]
    (∀ b, r = .raw → x.readout = some b →
      let own :=
        le 2 b.counter ++ [source b.source, close b.close] ++ le 1 b.laneCount ++ le 1 b.depth ++
          flags [b.runCoding, b.truncated] ++ [0] ++ le 2 b.lines ++ le 2 b.samples ++ le 2 b.fill ++
          le 2 b.filledCount ++ le 2 (b.firstFilled.getD 65535) ++ le 2 (b.lastStored.getD 65535) ++
          le 4 b.rejRange ++ le 4 b.rejOrder ++ le 4 b.rejIncomplete ++ le 2 b.embedded.length ++ b.embedded ++
          List.replicate (256 - b.embedded.length) 0 ++ List.replicate 222 0
      headerBytes x r = header own ∧ (b.embedded.length ≤ 256 → own.length = 512)) ∧
    ∀ b src serial, r ≠ .raw → (rendOf x r).content = .encoded b src serial →
      let own :=
        le 1 b.slot ++ flags [b.substituted, b.shadingApplied, b.shadingMissing, b.half, b.subject] ++
          le 2 b.generation ++ le 1 b.qualityAsked ++ le 1 b.qualityUsed ++ le 2 b.width ++ le 2 b.height ++
          le 2 b.cropLeft ++ le 2 b.cropTop ++ le 2 b.cropWidth ++ le 2 b.cropHeight ++ List.replicate 238 0
      headerBytes x r = header own ∧ own.length = 256) ∧
  (∀ (header bytes : List Byte) (offset n : Nat),
    transferBytes header (.raw bytes) offset n = (List.range n).map fun i => (header ++ bytes).getD (offset + i) 0) ∧
  ∀ s : State,
    let x := s.tether
    let ackTime := some (x.settings.acknowledgement * 1000)
    let rankOf (r : Rendition) : Nat := x.settings.rank.idxOf r
    (transferQueue s).Perm
      (s.store.shots.flatMap fun y =>
        (([.raw, .dev, .prv] : List Rendition).filter fun r =>
          y.duties.any fun d => d.dest == .desk && d.rend == r && d.state == .owed).map fun r => (y, r)) ∧
    ((transferQueue s).Pairwise fun a b =>
      b.1.priority < a.1.priority ∨
        (a.1.priority = b.1.priority ∧
          (rankOf a.2 < rankOf b.2 ∨ (rankOf a.2 = rankOf b.2 ∧ shotKey s a.1 ≤ shotKey s b.1)))) ∧
    (∀ y r, qualifies s (y, r) = true ↔ (rendOf y r).state = .ready ∧ (x.mode = some .preview → r = .prv)) ∧
    (x.link ≠ .bound ∨ x.transfer ≠ none ∨ (∀ q ∈ transferQueue s, qualifies s q = false) → selectTransfer s = s) ∧
    (∀ before after y r, x.link = .bound → x.transfer = none → transferQueue s = before ++ (y, r) :: after →
      (∀ q ∈ before, qualifies s q = false) → qualifies s (y, r) = true →
      let u := setDuty y.slot .desk r .active none s
      ∃ t, selectTransfer s = { u with tether := { x with transfer := some t } } ∧ t.slot = y.slot ∧
        t.number = orZero y.number ∧ t.rend = r ∧ t.header = headerBytes y r ∧
        t.length = t.header.length + (rendOf y r).length ∧ t.phase = .announced ∧ t.announceReady = true ∧
        t.expiries = 0 ∧ t.timer = none ∧ t.summary = summaryBytes y ∧ t.chain = chainBytes y.chain ∧ t.acked = 0 ∧
        t.next = 0 ∧ t.highest = 0) ∧
    (∀ t y, shotAt s t.slot = some y → transferContent s t = (rendOf y t.rend).content) ∧
    (x.link = .down → exec .portTakesFrame s = .next s) ∧
    (∀ f rest, x.link ≠ .down → x.ready = f :: rest →
      exec .portTakesFrame s =
        .next { s with tether := { x with ready := rest, lastSent := some (frameBytes (sentAs s f)) } } ∧
        ((∀ b, f.body ≠ .echoed b) →
          sentAs s f = { f with src := x.settings.station, frameType := x.settings.frameType }) ∧
        ∀ b, f.body = .echoed b → sentAs s f = f) ∧
    (x.ready = [] → x.link ≠ .bound → exec .portTakesFrame s = .next s) ∧
    (∀ d, x.link = .bound → x.desk = some d → x.ready = [] →
      let frame (b : FrameBody) : List Byte :=
        frameBytes { dst := d, src := x.settings.station, frameType := x.settings.frameType, body := b }
      let noBlock : Prop :=
        ∀ t, x.transfer = some t → t.announceReady = false ∧ ¬ (t.phase = .sending ∧ unacknowledged t < x.window ∧
          t.next < t.length)
      (∀ t, x.transfer = some t → t.announceReady = true →
        exec .portTakesFrame s =
          .next { s with
            tether := { x with
              lastSent := some (frame (.announce t.number t.rend t.length t.summary t.chain))
              transfer := some { t with announceReady := false, timer := ackTime }
              counters := { x.counters with announces := satInc x.counters.announces } } }) ∧
      (∀ t, x.transfer = some t → t.announceReady = false → t.phase = .sending → unacknowledged t < x.window →
        t.next < t.length →
        let size := min 1408 (t.length - t.next)
        let last := t.next + size
        exec .portTakesFrame s =
          .next { s with
            tether := { x with
              lastSent := some (frame (.block t.number t.rend t.next
                (transferBytes t.header (transferContent s t) t.next size)))
              transfer := some { t with
                next := last, highest := max t.highest last
                timer := if t.next = t.acked then ackTime else t.timer }
              counters := { x.counters with
                blocks := satInc x.counters.blocks
                resent := if last ≤ t.highest then satInc x.counters.resent else x.counters.resent } } }) ∧
      (noBlock → x.mirror = none → exec .portTakesFrame s = .next s) ∧
      (∀ m, noBlock → x.mirror = some m →
        let size := min 1408 (m.total - m.sent)
        let data := (List.range size).map fun i => liveByte m.image (m.sent + i)
        exec .portTakesFrame s =
          .next { s with
            tether := { x with
              lastSent := some (frame (.mirror m.sequence m.total m.sent data))
              mirror := if m.sent + size < m.total then some { m with sent := m.sent + size } else none
              counters := { x.counters with fragments := satInc x.counters.fragments } } })) ∧
    (∀ k : Nat, (k = 0 → unitsFor 1408 k = 0) ∧ ∀ n, 1408 * n < k → k ≤ 1408 * (n + 1) → unitsFor 1408 k = n + 1) ∧
    ((∀ t, x.transfer = some t → t.timer = none) → exec .ackTimerExpiry s = .next s) ∧
    ∀ t k, x.transfer = some t → t.timer = some k →
      let u := elapse k s
      let timeouts := { x.counters with ackTimeouts := satInc x.counters.ackTimeouts }
      (t.expiries < 2 →
        exec .ackTimerExpiry s =
          .next (settle { u with
            tether := { u.tether with
              counters := timeouts
              transfer := some
                (if t.phase = .announced then
                   { t with expiries := t.expiries + 1, timer := none, announceReady := true }
                 else { t with expiries := t.expiries + 1, timer := none, next := t.acked }) } })) ∧
      (2 ≤ t.expiries →
        ∃ v, exec .ackTimerExpiry s = .next v ∧ v.tether.link = .linked ∧ v.tether.result = .lost ∧
          v.tether.desk = none ∧ v.tether.transfer = none ∧ v.tether.counters = timeouts ∧
          (let b := endBinding { u with tether := { u.tether with counters := timeouts } }
           v =
             settle (raise .tetherLost
               { b with tether := { b.tether with mode := none, window := 0, result := .lost } })) ∧
          Settles { u with tether := v.tether } v)

/-! ## Invariants and non-interference -/

/-- R67, R128, R132, R134, R137, R167, R174, R175: every step keeps the queues, the load buffer, the burst log, the extent
lists and the placement logs within the sizes the manual gives them. -/
def Obligations.StepKeepsSizesBounded : Prop := ∀ s t : State, Bounded s → step s = .next t → Bounded t

/-- R39, R52, R54, R55, R171: every step keeps capture DISARMED in STANDBY, a profile slot armed exactly outside DISARMED,
and in DISARMED no fire latch and no ring. -/
def Obligations.StepKeepsCaptureLegal : Prop := ∀ s t : State, CaptureLegal s → step s = .next t → CaptureLegal t

/-- R145, R146, R148, R149, R152: every step keeps a desk address exactly in BOUND, a transfer and the silence timer only
there, and the negotiation timer only in LINKED. -/
def Obligations.StepKeepsTetherLegal : Prop :=
  ∀ s t : State, TetherLegal s.tether → step s = .next t → TetherLegal t.tether

/-- R70, R76, R79 to R88: every step keeps what the lens state says of contract, drives, requests and timers, and the
controller ABSENT while no lens is present. -/
def Obligations.StepKeepsLensSound : Prop := ∀ s t : State, LensSound s → step s = .next t → LensSound t

/-- R169: no command that arrives on the desk channel changes a loaded table, a setting, the operating state, the capture
state, the lens, a card slot, a host hold or a duty to a card. -/
def Obligations.DeskCommandsStayWithinTheirReach : Prop :=
  ∀ (i : Instr) (s : State), i ∈ executions .desk → ∃ t, exec i s = .next t ∧
    t.pins = s.pins ∧ t.cardA = s.cardA ∧ t.cardB = s.cardB ∧ t.cardMode = s.cardMode ∧ t.capture = s.capture ∧
    t.intake = s.intake ∧ t.lens = s.lens ∧ t.focus = s.focus ∧
    t.control = { s.control with ready := t.control.ready } ∧
    t.hostChan = { s.hostChan with latches := t.hostChan.latches, notice := t.hostChan.notice } ∧
    t.tether.settings = s.tether.settings ∧ t.tether.link = s.tether.link ∧
    t.store.routing = s.store.routing ∧ t.store.floor = s.store.floor ∧ t.store.warnLevel = s.store.warnLevel ∧
    t.store.nextNumber = s.store.nextNumber ∧
    (t.dev.bank.map fun b => (b.generation, b.current)) = (s.dev.bank.map fun b => (b.generation, b.current)) ∧
    ∀ y ∈ t.store.shots, ∃ x ∈ s.store.shots, x.slot = y.slot ∧ x.number = y.number ∧ x.hostHold = y.hostHold ∧
      (x.duties.filter fun d => d.dest != .desk) = y.duties.filter fun d => d.dest != .desk
end

