-- ==== Sys2Proof/Laws/Lists.lean ====
section
/-! SUPPORT. Small lemmas of the list and number helpers: codes read back, lists without duplicates, rounding up,
little-endian fields and the heads of packets, lanes after a change of their number, awaited measurements. -/

namespace Sys2Proof.Machine

theorem distinct_iff : ∀ l : List Nat, distinct l = true ↔ l.Nodup
  | [] => by simp [distinct]
  | a :: rest => by simp [distinct, distinct_iff rest]

theorem modeOfCode_eq {v : Nat} {m : Mode} : modeOfCode v = some m ↔ v = modeCode m := by
  constructor
  · unfold modeOfCode; split <;> simp <;> intro h <;> subst h <;> rfl
  · intro h; subst h; cases m <;> rfl

theorem rendOfCode_eq {v : Nat} {r : Rendition} : rendOfCode v = some r ↔ v = rendCode r := by
  constructor
  · unfold rendOfCode; split <;> simp <;> intro h <;> subst h <;> rfl
  · intro h; subst h; cases r <;> rfl

/-- A list of codes that are all listed is read as the list whose codes they are. -/
theorem allOf_eq {α : Type} {decode : Nat → Option α} {code : α → Nat} (h : ∀ v a, decode v = some a ↔ v = code a) :
    ∀ (vs : List Nat) (l : List α), allOf decode vs = some l ↔ vs = l.map code
  | [], l => by simp only [allOf]; constructor
                · intro e; cases e; rfl
                · intro e; cases l
                  · rfl
                  · simp at e
  | v :: vs, l => by
    unfold allOf
    constructor
    · intro e
      split at e
      · rename_i a more ha hm
        cases e
        rw [(h _ _).1 ha, (allOf_eq h vs more).1 hm]; rfl
      · exact nomatch e
    · intro e
      cases l with
      | nil => simp at e
      | cons a more =>
        simp only [List.map_cons, List.cons.injEq] at e
        rw [(h v a).2 e.1, (allOf_eq h vs more).2 e.2]

theorem modesOf_eq (vs : List Nat) (l : List Mode) :
    modesOf vs = some l ↔ 1 ≤ vs.length ∧ vs.length ≤ 3 ∧ vs.Nodup ∧ vs = l.map modeCode := by
  unfold modesOf
  split
  · rename_i h
    simp only [Bool.and_eq_true, decide_eq_true_eq, distinct_iff] at h
    rw [allOf_eq (fun v m => modeOfCode_eq)]
    exact ⟨fun e => ⟨h.1.1, h.1.2, h.2, e⟩, fun e => e.2.2.2⟩
  · rename_i h
    simp only [Bool.and_eq_true, decide_eq_true_eq, distinct_iff] at h
    exact ⟨fun e => (nomatch e), fun e => absurd ⟨⟨e.1, e.2.1⟩, e.2.2.1⟩ h⟩

theorem rankOf_eq (vs : List Nat) (l : List Rendition) :
    rankOf vs = some l ↔ vs.length = 3 ∧ vs.Nodup ∧ vs = l.map rendCode := by
  unfold rankOf
  split
  · rename_i h
    simp only [Bool.and_eq_true, beq_iff_eq, distinct_iff] at h
    rw [allOf_eq (fun v m => rendOfCode_eq)]
    exact ⟨fun e => ⟨h.1, h.2, e⟩, fun e => e.2.2⟩
  · rename_i h
    simp only [Bool.and_eq_true, beq_iff_eq, distinct_iff] at h
    exact ⟨fun e => (nomatch e), fun e => absurd ⟨e.1, e.2.1⟩ h⟩

/-- Modes 1 to 3 are the codes of modes. -/
theorem modes_of_range : ∀ vs : List Nat, (∀ v ∈ vs, 1 ≤ v ∧ v ≤ 3) → ∃ l : List Mode, vs = l.map modeCode
  | [], _ => ⟨[], rfl⟩
  | v :: vs, h => by
    obtain ⟨l, e⟩ := modes_of_range vs (fun w hw => h w (List.mem_cons_of_mem _ hw))
    have hv := h v List.mem_cons_self
    have : v = 1 ∨ v = 2 ∨ v = 3 := by omega
    rcases this with rfl | rfl | rfl
    · exact ⟨.windowed :: l, by rw [e]; rfl⟩
    · exact ⟨.basic :: l, by rw [e]; rfl⟩
    · exact ⟨.preview :: l, by rw [e]; rfl⟩

/-- Codes 0 to 2 are the codes of renditions. -/
theorem rends_of_range : ∀ vs : List Nat, (∀ v ∈ vs, v ≤ 2) → ∃ l : List Rendition, vs = l.map rendCode
  | [], _ => ⟨[], rfl⟩
  | v :: vs, h => by
    obtain ⟨l, e⟩ := rends_of_range vs (fun w hw => h w (List.mem_cons_of_mem _ hw))
    have hv := h v List.mem_cons_self
    have : v = 0 ∨ v = 1 ∨ v = 2 := by omega
    rcases this with rfl | rfl | rfl
    · exact ⟨.raw :: l, by rw [e]; rfl⟩
    · exact ⟨.dev :: l, by rw [e]; rfl⟩
    · exact ⟨.prv :: l, by rw [e]; rfl⟩

theorem unitsFor_eq {k n : Nat} (hk : 0 < k) : unitsFor k n = (n + (k - 1)) / k := by
  unfold unitsFor
  have e := Nat.div_add_mod n k
  have hlt := Nat.mod_lt n hk
  by_cases h : n % k = 0
  · simp only [h, beq_self_eq_true, if_true, Nat.add_zero]
    symm
    apply Nat.div_eq_of_lt_le
    · rw [Nat.mul_comm]; omega
    · rw [Nat.add_mul, Nat.mul_comm]; omega
  · simp only [beq_iff_eq, h, if_false]
    symm
    apply Nat.div_eq_of_lt_le
    · rw [Nat.add_mul, Nat.mul_comm]; omega
    · rw [Nat.add_mul, Nat.add_mul, Nat.mul_comm]; omega

theorem readLe_le : ∀ (n v : Nat), v < 256 ^ n → readLe (le n v) = v
  | 0, v, h => by simp only [Nat.pow_zero] at h; simp [le, readLe]; omega
  | n + 1, v, h => by
    simp only [le, readLe]
    rw [readLe_le n (v / 256) (by rw [Nat.pow_succ] at h; omega)]
    simp only [BitVec.toNat_ofNat]
    omega

/-! ## Fields of bytes -/

theorem length_le : ∀ n v, (le n v).length = n
  | 0, _ => rfl
  | n + 1, v => by simp [le, length_le n]

/-- A field in front of any bytes is read back. -/
theorem takeLe_append {w : Nat} {a : List Byte} (h : a.length = w) (b : List Byte) :
    takeLe w (a ++ b) = some (readLe a, b) := by
  unfold takeLe
  subst h
  simp

/-- The head of an INJECT packet is read back. -/
theorem readFields_packetHead (kind lineKind : Byte) {n : Nat} (h : n < 2 ^ 32) (rest : List Byte) :
    readFields [1, 1, 4] ([kind, lineKind] ++ le 4 n ++ rest) = some ([kind.toNat, lineKind.toNat, n], rest) := by
  have e : [kind, lineKind] ++ le 4 n ++ rest = [kind] ++ ([lineKind] ++ (le 4 n ++ rest)) := by simp
  rw [e]
  simp only [readFields, takeLe_append (w := 1) (a := [kind]) rfl, takeLe_append (w := 1) (a := [lineKind]) rfl,
    takeLe_append (length_le 4 n), readLe_le 4 n (by simpa using h)]
  simp [readLe]

/-- A rest of fewer than six bytes has no packet head. -/
theorem readFields_shortHead : ∀ bytes : List Byte, bytes.length < 6 → readFields [1, 1, 4] bytes = none
  | [], _ => rfl
  | [_], _ => rfl
  | [_, _], _ => rfl
  | [_, _, _], _ => rfl
  | [_, _, _, _], _ => rfl
  | [_, _, _, _, _], _ => rfl
  | _ :: _ :: _ :: _ :: _ :: _ :: _, h => by simp at h; omega

/-- The words of an even number of bytes. -/
theorem readWords_eq : ∀ (n : Nat) (b : List Byte), b.length = 2 * n →
    readWords b = (List.range n).map fun i => readLe ((b.drop (2 * i)).take 2)
  | 0, b, h => by
    have e : b = [] := List.length_eq_zero_iff.1 (by omega)
    subst e
    rfl
  | n + 1, a :: c :: rest, h => by
    rw [readWords, readWords_eq n rest (by simp at h; omega), List.range_succ_eq_map]
    simp [readLe, Function.comp_def, Nat.mul_add]
  | _ + 1, [], h => by simp at h
  | _ + 1, [_], h => by simp at h; omega

/-! ## Lanes -/

/-- A lane after a change of the lane count. -/
theorem getElem?_lanesAfter (old new : Nat) : ∀ (l : List Lane) (k n : Nat),
    (lanesAfter old new k l)[n]? = (l[n]?).map fun x => if k + n < old ∧ k + n < new then x else Lane.reset
  | [], k, n => by simp [lanesAfter]
  | x :: l, k, 0 => by simp [lanesAfter]
  | x :: l, k, n + 1 => by
    simp only [lanesAfter, List.getElem?_cons_succ, getElem?_lanesAfter old new l (k + 1) n]
    congr 1
    funext y
    congr 1
    simp only [Nat.add_assoc, Nat.add_comm 1]

/-! ## Awaited measurements -/

/-- No awaited frame has the counter: nothing is taken. -/
theorem takeAwaited_none {c : Nat} : ∀ {l : List AwaitedMeasurement}, (∀ m ∈ l, m.counter ≠ c) → takeAwaited c l = none
  | [], _ => rfl
  | m :: rest, h => by
    have hm : m.counter ≠ c := h m (by simp)
    have ht : takeAwaited c rest = none := takeAwaited_none fun w hw => h w (by simp [hw])
    simp [takeAwaited, hm, ht]

/-- The first awaited frame of the counter is taken, and the others keep their order. -/
theorem takeAwaited_append {c : Nat} {m : AwaitedMeasurement} (after : List AwaitedMeasurement) (hm : m.counter = c) :
    ∀ {before : List AwaitedMeasurement}, (∀ w ∈ before, w.counter ≠ c) →
      takeAwaited c (before ++ m :: after) = some (m, before ++ after)
  | [], _ => by simp [takeAwaited, hm]
  | w :: rest, h => by
    have hw : w.counter ≠ c := h w (by simp)
    have ht := takeAwaited_append after hm (before := rest) fun v hv => h v (by simp [hv])
    simp [takeAwaited, hw, ht]

end Sys2Proof.Machine
end

