-- ==== Sys2Proof/Laws/Bytes.lean ====
section
/-! SUPPORT. What the layouts of chapter 10 have in common: flag bytes, records of one size, and a
length in front that counts itself. -/

namespace Sys2Proof.Machine

/-- A flag byte is its bits as a number, bit 0 first. -/
theorem bitsOf_foldr (l : List Bool) : bitsOf l = l.foldr (fun b k => b.toNat + 2 * k) 0 := by
  induction l with
  | nil => rfl
  | cons b t ih => simp only [List.foldr, bitsOf, ih]; cases b <;> rfl

/-- One-byte fields end to end. -/
theorem flatten_le_one (l : List Nat) : (l.map fun n => le 1 n).flatten = l.map (BitVec.ofNat 8) := by
  induction l with
  | nil => rfl
  | cons a t ih => simp_all [le]

/-- Records of one size end to end. -/
theorem length_flatten_map {α : Type} {k : Nat} (f : α → List Byte) (l : List α) (h : ∀ a, (f a).length = k) :
    (l.map f).flatten.length = k * l.length := by
  induction l with
  | nil => rfl
  | cons a t ih =>
    simp only [List.map_cons, List.flatten_cons, List.length_append, h, ih, List.length_cons, Nat.mul_succ]
    omega

/-- A rendition header begins with its own length. -/
theorem headerBytes_eq (x : Shot) (r : Rendition) :
    headerBytes x r =
      le 2 (headerBytes x r).length ++ le 1 (rendCode r) ++ le 1 partLevel ++
        (summaryBytes x ++ ownBlockBytes x r ++ chainBytes x.chain) := by
  have : (headerBytes x r).length = 4 + (summaryBytes x ++ ownBlockBytes x r ++ chainBytes x.chain).length := by
    simp only [headerBytes, List.length_append, length_le]
  rw [this]; rfl

/-- A shot record image begins with its own length. -/
theorem imageBytes_eq (x : Shot) :
    imageBytes x =
      le 2 (imageBytes x).length ++
        (le 1 x.slot ++ le 1 (shotStateCode x.state) ++ le 1 (bitsOf [x.provisional, x.hostHold, x.deskHold]) ++
          le 1 x.duties.length ++ summaryBytes x ++ rendImageBytes x.raw ++ rendImageBytes x.dev ++
          rendImageBytes x.prv ++ focusDetailBytes x.focus ++ (x.duties.map dutyBytes).flatten ++
          chainBytes x.chain) := by
  have : (imageBytes x).length =
      2 + (le 1 x.slot ++ le 1 (shotStateCode x.state) ++ le 1 (bitsOf [x.provisional, x.hostHold, x.deskHold]) ++
          le 1 x.duties.length ++ summaryBytes x ++ rendImageBytes x.raw ++ rendImageBytes x.dev ++
          rendImageBytes x.prv ++ focusDetailBytes x.focus ++ (x.duties.map dutyBytes).flatten ++
          chainBytes x.chain).length := by
    simp only [imageBytes, List.length_append, length_le]
  rw [this]; rfl

end Sys2Proof.Machine
end

