-- ==== Sys2Proof/Laws/Due.lean ====
section
/-! SUPPORT. What one microsecond makes due: a timer that has run out, and what the host link's taking of a cell leaves
alone; the gate test and the selection at the end of a command. -/

namespace Sys2Proof.Machine

/-- A timer is due after a microsecond where none or one of it is left. -/
theorem dueIf_tickTimer (tm : Timer) (c : Instr) :
    dueIf (tickTimer 1 tm) c = if tm = some 0 ∨ tm = some 1 then [c] else [] := by
  rcases tm with _ | _ | _ | n <;> simp [dueIf, tickTimer]

/-- The host link's taking of a cell touches the cells ready and the unit last taken. -/
theorem takeReadyCell_eq (s : State) :
    takeReadyCell s =
      { s with
        control := { s.control with
          ready := (takeReadyCell s).control.ready, lastTaken := (takeReadyCell s).control.lastTaken } } := by
  unfold takeReadyCell
  split
  · cases s.control.ready <;> rfl
  · rfl

/-- R17: the DESK duties of a shot that are due. -/
theorem dueDuties_eq (now : Nat) (x : Shot) :
    dueDuties now x =
      ([.raw, .dev, .prv] : List Rendition).flatMap fun r =>
        match dutyOf x .desk r with
        | none => []
        | some y =>
          match y.state, y.expiry with
          | .owed, some e => if e ≤ now then [.dutyExpiry (orZero x.number) r] else []
          | _, _ => [] := by
  unfold dueDuties
  congr 1
  funext r
  simp only [owedExpiry]
  cases dutyOf x .desk r with
  | none => simp
  | some y =>
    rcases y with ⟨_, _, st, _, _, e⟩
    cases st <;> cases e <;> simp

/-- A command ends in the opening burst where the gate it tests is open. -/
theorem finish_open {s : State} (h : s.capture.state = .awaitingFocus) (hg : releaseGate s = true) :
    finish s = settle (enterFiring s) := by simp [finish, gateTest, h, hg]

/-- A command ends in the selection alone where no gate is tested or the gate is closed. -/
theorem finish_closed {s : State} (h : s.capture.state ≠ .awaitingFocus ∨ releaseGate s = false) :
    finish s = settle s := by rcases h with h | h <;> simp [finish, gateTest, h]

end Sys2Proof.Machine
end

