-- ==== Sys2Proof/Laws/Emit.lean ====
section
/-! SUPPORT. What events and cells touch: each operation of the channel unit that raises an event or makes a cell ready
keeps `Emits`, and what `Emits` leaves alone. -/

namespace Sys2Proof.Machine

theorem Emits.refl (s : State) : Emits s s := rfl

theorem Emits.trans {s t u : State} (h1 : Emits s t) (h2 : Emits t u) : Emits s u :=
  Eq.trans (b := emittedFrom t u) h2 (congrArg (fun x => emittedFrom x u) h1 :)

theorem emits_sendCells (ch : Channel) (cells : List OutCell) (s : State) : Emits s (sendCells ch cells s) := by
  cases ch
  · simp only [sendCells]; split <;> rfl
  · simp only [sendCells]; split <;> rfl

theorem emits_answer (ch : Channel) (c : Cell) (st : Status) (args : Payload) (s : State) :
    Emits s (answer ch c st args s) := emits_sendCells ch _ s

theorem emits_answerBare (ch : Channel) (c : Cell) (st : Status) (s : State) : Emits s (answerBare ch c st s) :=
  emits_answer ch c st _ s

theorem emits_pushFrames (frames : List TetherFrame) (s : State) : Emits s (pushFrames frames s) := rfl

theorem emits_setNotice (ch : Channel) (s : State) : Emits s (updChan ch (fun c => { c with notice := true }) s) := by
  cases ch <;> rfl

theorem emits_notify (ch : Channel) (s : State) : Emits s (notify ch s) :=
  (emits_setNotice ch s).trans (emits_sendCells ch _ _)

theorem emits_setLatch (e : Event) (ch : Channel) (s : State) : Emits s (updChan ch (setLatch e) s) := by
  cases ch <;> (simp only [updChan, setLatch, Emits]; split <;> rfl)

theorem emits_offerEvent (e : Event) (ch : Channel) (s : State) : Emits s (offerEvent e ch s) := by
  unfold offerEvent
  dsimp only
  split
  · exact (emits_setLatch e ch s).trans (emits_notify ch _)
  · exact emits_setLatch e ch s

theorem emits_raise (e : Event) (s : State) : Emits s (raise e s) := by
  unfold raise
  split
  · exact emits_offerEvent e .host s
  · exact (emits_offerEvent e .host s).trans (emits_offerEvent e .desk _)

theorem emits_notifyIfLatched (ch : Channel) (s : State) : Emits s (notifyIfLatched ch s) := by
  unfold notifyIfLatched
  split
  · exact emits_notify ch s
  · exact Emits.refl s

/-! What `Emits` leaves alone. -/

namespace Emits
variable {s t : State} (h : Emits s t)
include h

theorem pending : t.pending = s.pending := (congrArg State.pending h :)
theorem pins : t.pins = s.pins := (congrArg State.pins h :)
theorem opState : t.control.opState = s.control.opState := (congrArg (fun x => x.control.opState) h :)
theorem timeBase : t.control.timeBase = s.control.timeBase := (congrArg (fun x => x.control.timeBase) h :)
theorem load : t.control.load = s.control.load := (congrArg (fun x => x.control.load) h :)
theorem loadBuffer : t.control.loadBuffer = s.control.loadBuffer := (congrArg (fun x => x.control.loadBuffer) h :)
theorem resetAwaited : t.control.resetAwaited = s.control.resetAwaited := (congrArg (fun x => x.control.resetAwaited) h :)
theorem lastTaken : t.control.lastTaken = s.control.lastTaken := (congrArg (fun x => x.control.lastTaken) h :)
theorem hostQueue : t.hostChan.queue = s.hostChan.queue := (congrArg (fun x => x.hostChan.queue) h :)
theorem hostMask : t.hostChan.mask = s.hostChan.mask := (congrArg (fun x => x.hostChan.mask) h :)
theorem hostCounters : t.hostChan.counters = s.hostChan.counters := (congrArg (fun x => x.hostChan.counters) h :)
theorem deskQueue : t.deskChan.queue = s.deskChan.queue := (congrArg (fun x => x.deskChan.queue) h :)
theorem deskMask : t.deskChan.mask = s.deskChan.mask := (congrArg (fun x => x.deskChan.mask) h :)
theorem deskCounters : t.deskChan.counters = s.deskChan.counters := (congrArg (fun x => x.deskChan.counters) h :)
theorem store : t.store = s.store := (congrArg State.store h :)
theorem intake : t.intake = s.intake := (congrArg State.intake h :)
theorem capture : t.capture = s.capture := (congrArg State.capture h :)
theorem lens : t.lens = s.lens := (congrArg State.lens h :)
theorem focus : t.focus = s.focus := (congrArg State.focus h :)
theorem dev : t.dev = s.dev := (congrArg State.dev h :)
theorem cardA : t.cardA = s.cardA := (congrArg State.cardA h :)
theorem cardB : t.cardB = s.cardB := (congrArg State.cardB h :)
theorem cardMode : t.cardMode = s.cardMode := (congrArg State.cardMode h :)
theorem tether : t.tether = { s.tether with ready := t.tether.ready } := (congrArg State.tether h :)

end Emits

/-! The reads of `Emits`-related states that operations branch on. -/

theorem Emits.card {s t : State} (h : Emits s t) (k : CardSlot) : Machine.card t k = Machine.card s k := by
  cases k
  · exact h.cardA
  · exact h.cardB

theorem Emits.shotAt {s t : State} (h : Emits s t) (n : Nat) : Machine.shotAt t n = Machine.shotAt s n := by
  unfold Machine.shotAt; rw [h.store]

/-! An event reads and writes the channels, the channel unit and the tether link alone: it is raised alike in any two
states that agree there, so it commutes with every update elsewhere. -/

/-- `t` with what events and cells touch as `u` has it. -/
def heardAs (t u : State) : State :=
  { t with control := u.control, hostChan := u.hostChan, deskChan := u.deskChan, tether := u.tether }

/-- Two states that agree in all that an event reads. -/
structure Alike (s t : State) : Prop where
  pins : t.pins = s.pins
  control : t.control = s.control
  hostChan : t.hostChan = s.hostChan
  deskChan : t.deskChan = s.deskChan
  tether : t.tether = s.tether

theorem offerEvent_alike (e : Event) (ch : Channel) {s t : State} (h : Alike s t) :
    offerEvent e ch t = heardAs t (offerEvent e ch s) := by
  obtain ⟨a1, a2, a3, a4, a5, a6, a7, a8, a9, a10, a11, a12, a13, a14, a15⟩ := s
  obtain ⟨b1, b2, b3, b4, b5, b6, b7, b8, b9, b10, b11, b12, b13, b14, b15⟩ := t
  obtain ⟨h1, h2, h3, h4, h5⟩ := h
  simp only at h1 h2 h3 h4 h5
  subst h1 h2 h3 h4 h5
  obtain ⟨t1, link, desk, t4, t5, t6, t7, t8, t9, t10, t11, t12, t13, t14⟩ := b15
  cases ch
  · cases hq : noticeDue e b4 <;> cases hu : b2.hostUp <;>
      simp [offerEvent, notify, sendCells, chan, updChan, canNotify, heardAs, hq, hu]
  · cases hq : noticeDue e b5 <;> cases link <;> cases desk <;>
      simp [offerEvent, notify, sendCells, chan, updChan, canNotify, heardAs, hq, pushFrames, frameTo]

theorem alike_heardAs {s t : State} (h : Alike s t) (u : State) (hu : Emits s u) : Alike u (heardAs t u) := by
  refine ⟨?_, rfl, rfl, rfl, rfl⟩
  exact h.pins.trans hu.pins.symm

/-- An event is raised alike in two states that agree in what it reads. -/
theorem raise_alike (e : Event) {s t : State} (h : Alike s t) : raise e t = heardAs t (raise e s) := by
  unfold raise
  split
  · exact offerEvent_alike e .host h
  · rw [offerEvent_alike e .host h,
      offerEvent_alike e .desk (alike_heardAs h _ (emits_offerEvent e .host s))]
    rfl

/-- An event and a change of a card slot commute. -/
theorem raise_updCard (e : Event) (k : CardSlot) (f : Card → Card) (s : State) :
    raise e (updCard k f s) = updCard k f (raise e s) := by
  have h : Alike s (updCard k f s) := by cases k <;> exact ⟨rfl, rfl, rfl, rfl, rfl⟩
  have hu : Emits s (raise e s) := emits_raise e s
  rw [raise_alike e h]
  generalize raise e s = u at hu ⊢
  have hs : heardAs (updCard k f s) u = updCard k f (heardAs s u) := by cases k <;> rfl
  have hb : heardAs s u = u := by rw [hu]; rfl
  rw [hs, hb]

end Sys2Proof.Machine
end

