-- ==== Sys2Proof/Laws/Frame.lean ====
section
/-! SUPPORT. How much each shared operation changes: the six relations are reflexive and transitive, each is part of
the next, and one lemma per operation says within which it stays. -/

namespace Sys2Proof.Machine

theorem Stores.refl (s : State) : Stores s s := rfl

theorem Stores.trans {s t u : State} (h1 : Stores s t) (h2 : Stores t u) : Stores s u :=
  Eq.trans (b := storedFrom t u) h2 (congrArg (fun x => storedFrom x u) h1 :)

theorem Captures.refl (s : State) : Captures s s := rfl

theorem Captures.trans {s t u : State} (h1 : Captures s t) (h2 : Captures t u) : Captures s u :=
  Eq.trans (b := capturedFrom t u) h2 (congrArg (fun x => capturedFrom x u) h1 :)

theorem Records.refl (s : State) : Records s s := rfl

theorem Records.trans {s t u : State} (h1 : Records s t) (h2 : Records t u) : Records s u :=
  Eq.trans (b := recordedFrom t u) h2 (congrArg (fun x => recordedFrom x u) h1 :)

theorem Settles.refl (s : State) : Settles s s := rfl

theorem Settles.trans {s t u : State} (h1 : Settles s t) (h2 : Settles t u) : Settles s u :=
  Eq.trans (b := settledFrom t u) h2 (congrArg (fun x => settledFrom x u) h1 :)

theorem Finishes.refl (s : State) : Finishes s s := rfl

theorem Finishes.trans {s t u : State} (h1 : Finishes s t) (h2 : Finishes t u) : Finishes s u :=
  Eq.trans (b := finishedFrom t u) h2 (congrArg (fun x => finishedFrom x u) h1 :)

theorem Emits.stores {s t : State} (h : Emits s t) : Stores s t :=
  Eq.trans (b := storedFrom s (emittedFrom s t)) h (congrArg (storedFrom s) (Eq.symm h) :)

theorem Stores.captures {s t : State} (h : Stores s t) : Captures s t :=
  Eq.trans (b := capturedFrom s (storedFrom s t)) h (congrArg (capturedFrom s) (Eq.symm h) :)

theorem Stores.records {s t : State} (h : Stores s t) : Records s t :=
  Eq.trans (b := recordedFrom s (storedFrom s t)) h (congrArg (recordedFrom s) (Eq.symm h) :)

theorem Records.settles {s t : State} (h : Records s t) : Settles s t :=
  Eq.trans (b := settledFrom s (recordedFrom s t)) h (congrArg (settledFrom s) (Eq.symm h) :)

theorem Captures.finishes {s t : State} (h : Captures s t) : Finishes s t :=
  Eq.trans (b := finishedFrom s (capturedFrom s t)) h (congrArg (finishedFrom s) (Eq.symm h) :)

theorem Settles.finishes {s t : State} (h : Settles s t) : Finishes s t :=
  Eq.trans (b := finishedFrom s (settledFrom s t)) h (congrArg (finishedFrom s) (Eq.symm h) :)

theorem Emits.foldl {α : Type} (f : State → α → State) (h : ∀ t a, Emits t (f t a)) :
    ∀ (l : List α) (s : State), Emits s (l.foldl f s)
  | [], s => Emits.refl s
  | a :: rest, s => (h s a).trans (Emits.foldl f h rest (f s a))

theorem Stores.foldl {α : Type} (f : State → α → State) (h : ∀ t a, Stores t (f t a)) :
    ∀ (l : List α) (s : State), Stores s (l.foldl f s)
  | [], s => Stores.refl s
  | a :: rest, s => (h s a).trans (Stores.foldl f h rest (f s a))

theorem Records.foldl {α : Type} (f : State → α → State) (h : ∀ t a, Records t (f t a)) :
    ∀ (l : List α) (s : State), Records s (l.foldl f s)
  | [], s => Records.refl s
  | a :: rest, s => (h s a).trans (Records.foldl f h rest (f s a))

theorem Settles.foldl {α : Type} (f : State → α → State) (h : ∀ t a, Settles t (f t a)) :
    ∀ (l : List α) (s : State), Settles s (l.foldl f s)
  | [], s => Settles.refl s
  | a :: rest, s => (h s a).trans (Settles.foldl f h rest (f s a))

theorem Finishes.foldl {α : Type} (f : State → α → State) (h : ∀ t a, Finishes t (f t a)) :
    ∀ (l : List α) (s : State), Finishes s (l.foldl f s)
  | [], s => Finishes.refl s
  | a :: rest, s => (h s a).trans (Finishes.foldl f h rest (f s a))

/-! ## Pool and shot table -/

theorem stores_updShots (f : List Shot → List Shot) (s : State) : Stores s (updShots f s) := rfl

theorem stores_updShot (n : Nat) (f : Shot → Shot) (s : State) : Stores s (updShot n f s) := rfl

theorem stores_removeShot (n : Nat) (s : State) : Stores s (removeShot n s) := rfl

theorem stores_spaceTest (s : State) : Stores s (spaceTest s) := by
  unfold spaceTest
  dsimp only
  split
  · exact Stores.refl s
  · exact Stores.trans (t := { s with store := { s.store with low := _ } }) rfl (emits_raise _ _).stores

theorem stores_setFree (l : List Nat) (s : State) : Stores s (setFree l s) :=
  Stores.trans (t := { s with store := { s.store with free := l } }) rfl (stores_spaceTest _)

theorem stores_setDev (d : DevEngine) (s : State) : Stores s { s with dev := d } := rfl

theorem stores_grantDevPage (n : Nat) (z : OutputSize) (s : State) : Stores s (grantDevPage n z s) := by
  unfold grantDevPage
  split
  · exact Stores.refl s
  · exact ((stores_setDev _ s).trans (stores_updShot n _ _)).trans (stores_setFree _ _)

theorem stores_retryWait (s : State) : Stores s (retryWait s) := by
  unfold retryWait
  split
  · split
    · exact Stores.refl s
    · split
      · exact Stores.refl s
      · exact stores_grantDevPage _ _ s
  · exact Stores.refl s

theorem stores_returnPages (l : List Nat) (s : State) : Stores s (returnPages l s) := by
  unfold returnPages
  split
  · exact Stores.refl s
  · exact (stores_setFree _ s).trans (stores_retryWait _)

/-! ## Develop queue and developments -/

theorem stores_previousTest (s : State) : Stores s (previousTest s) := rfl

theorem stores_startDevelopment (x : Shot) (rest : List Nat) (s : State) : Stores s (startDevelopment x rest s) := rfl

theorem stores_startIfIdle (s : State) : Stores s (startIfIdle s) := by
  unfold startIfIdle
  split
  · split
    · exact stores_startDevelopment _ _ s
    · exact Stores.refl s
  · exact Stores.refl s

theorem stores_enqueueShot (n : Nat) (s : State) : Stores s (enqueueShot n s) := rfl

theorem stores_joinQueue (n : Nat) (s : State) : Stores s (joinQueue n s) := by
  unfold joinQueue
  split
  · rfl
  · split
    · exact Stores.refl s
    · exact (stores_enqueueShot n s).trans (stores_startIfIdle _)

theorem stores_moveInQueue (n : Nat) (s : State) : Stores s (moveInQueue n s) := by
  unfold moveInQueue
  split
  · rfl
  · exact Stores.refl s

theorem stores_leaveQueue (n : Nat) (s : State) : Stores s (leaveQueue n s) := by
  unfold leaveQueue
  split
  · split
    · exact Stores.refl s
    · rfl
  · exact Stores.refl s

theorem stores_requeueAfter (w : Work) (s : State) : Stores s (requeueAfter w s) := by
  unfold requeueAfter
  split
  · split
    · exact stores_enqueueShot _ s
    · exact Stores.refl s
  · exact Stores.refl s

/-! ## Renditions, shots and duties -/

theorem stores_retireTest (n : Nat) (s : State) : Stores s (retireTest n s) := by
  unfold retireTest
  split
  · split
    · exact (stores_removeShot n s).trans (emits_raise _ _).stores
    · exact Stores.refl s
  · exact Stores.refl s

theorem stores_releaseRend (n : Nat) (r : Rendition) (s : State) : Stores s (releaseRend n r s) := by
  unfold releaseRend
  split
  · exact ((stores_updShot n _ s).trans (stores_returnPages _ _)).trans (stores_retireTest n _)
  · exact Stores.refl s

theorem stores_readyTest (n : Nat) (r : Rendition) (s : State) : Stores s (readyTest n r s) := by
  unfold readyTest
  split
  · split
    · exact stores_releaseRend n r s
    · exact Stores.refl s
  · exact Stores.refl s

theorem stores_pendingTest (n : Nat) (r : Rendition) (s : State) : Stores s (pendingTest n r s) := by
  unfold pendingTest
  split
  · split
    · exact ((((stores_updShot n _ s).trans (stores_retireTest n _)).trans (stores_leaveQueue n _)).trans
        (stores_previousTest _)).trans (stores_readyTest n .raw _)
    · exact Stores.refl s
  · exact Stores.refl s

theorem stores_reassess (n : Nat) (s : State) : Stores s (reassess n s) := by
  unfold reassess
  exact (stores_updShot n _ s).trans (stores_retireTest n _)

theorem stores_abandonDevelopment (w : Work) (x : Shot) (s : State) : Stores s (abandonDevelopment w x s) := by
  unfold abandonDevelopment
  exact ((((((((stores_setDev _ s).trans (stores_updShot w.slot _ _)).trans (stores_returnPages _ _)).trans
      (stores_updShot w.slot _ _)).trans (stores_readyTest w.slot .raw _)).trans (stores_reassess w.slot _)).trans
      (stores_previousTest _)).trans (stores_requeueAfter w _)).trans (stores_startIfIdle _)

theorem stores_abandonTest (n : Nat) (s : State) : Stores s (abandonTest n s) := by
  unfold abandonTest
  split
  · split
    · exact stores_abandonDevelopment _ _ s
    · exact Stores.refl s
  · exact Stores.refl s

theorem stores_afterDuty (n : Nat) (r : Rendition) (s : State) : Stores s (afterDuty n r s) := by
  unfold afterDuty
  split
  · exact Stores.refl s
  · split
    · exact (stores_readyTest n r s).trans (stores_reassess n _)
    · exact (stores_pendingTest n r s).trans (stores_reassess n _)
    · split
      · exact stores_reassess n s
      · exact (stores_abandonTest n s).trans (stores_reassess n _)
    · exact stores_reassess n s

theorem stores_setDuty (n : Nat) (d : Dest) (r : Rendition) (st : DutyState) (reason : Option Reason) (s : State) :
    Stores s (setDuty n d r st reason s) := rfl

theorem stores_endDuty (n : Nat) (d : Dest) (r : Rendition) (st : DutyState) (reason : Option Reason) (s : State) :
    Stores s (endDuty n d r st reason s) := by
  unfold endDuty
  exact (stores_setDuty n d r st reason s).trans (stores_afterDuty n r _)

theorem stores_returnDeskDuty (n : Nat) (r : Rendition) (s : State) : Stores s (returnDeskDuty n r s) := by
  unfold returnDeskDuty
  split
  · exact Stores.refl s
  · split
    · exact stores_endDuty _ _ _ _ _ s
    · exact stores_setDuty _ _ _ _ _ s

/-- The end of a binding: its own changes of the tether, then what the return of the transfer's duty touches. -/
theorem stores_endBinding (s : State) :
    Stores
      { s with
        tether := { s.tether with
          link := .linked, desk := none, silenceTimer := none, mirrorOn := false, mirror := none, transfer := none } }
      (endBinding s) := by
  unfold endBinding
  split
  · rfl
  · exact stores_returnDeskDuty _ _ _

theorem stores_createDuties (n : Nat) (s : State) : Stores s (createDuties n s) := by
  unfold createDuties
  split
  · exact Stores.refl s
  · dsimp only
    refine Stores.trans ?_ ((stores_readyTest n .raw _).trans (stores_retireTest n _))
    split
    · exact stores_updShot n _ s
    · exact (stores_updShot n _ s).trans (stores_joinQueue n _)

theorem stores_discardShot (n : Nat) (s : State) : Stores s (discardShot n s) := by
  unfold discardShot
  split
  · exact Stores.refl s
  · exact (stores_removeShot n s).trans (stores_returnPages _ _)

theorem stores_returnReservation (n : Nat) (s : State) : Stores s (returnReservation n s) := by
  unfold returnReservation
  split
  · exact Stores.refl s
  · exact (stores_updShot n _ s).trans (stores_returnPages _ _)

/-- A page taken for RAW stays within the store. -/
theorem stores_takeRawPage {n : Nat} {s t : State} (h : takeRawPage n s = some t) : Stores s t := by
  unfold takeRawPage at h
  split at h
  · exact nomatch h
  · split at h
    · exact nomatch h
    · split at h
      · cases h; rfl
      · cases h; exact (stores_updShot n _ s).trans (stores_setFree _ _)
      · exact nomatch h

/-! ## Recording engine -/

theorem records_updCard (k : CardSlot) (f : Card → Card) (s : State) : Records s (updCard k f s) := by cases k <;> rfl

theorem records_redirectDuty (p : Nat × Rendition) (s : State) : Records s (redirectDuty p s) := by
  unfold redirectDuty
  exact ((stores_updShot p.1 _ s).trans (stores_endDuty _ _ _ _ _ _)).records

theorem records_redirectAll (s : State) : Records s (redirectAll s) := by
  unfold redirectAll
  split
  · exact Records.foldl _ (fun t p => records_redirectDuty p t) _ s
  · exact Records.refl s

theorem records_redirectFrom (k : CardSlot) (s : State) : Records s (redirectFrom k s) := by
  cases k
  · exact records_redirectAll s
  · exact Records.refl s

theorem records_raise (e : Event) (s : State) : Records s (raise e s) := (emits_raise e s).stores.records

theorem records_setCardState (k : CardSlot) (st : CardState) (s : State) : Records s (setCardState k st s) :=
  records_updCard k _ s

theorem records_stalledTest (k : CardSlot) (s : State) : Records s (stalledTest k s) := by
  unfold stalledTest
  dsimp only
  split
  · split
    · exact (records_setCardState k _ s).trans (records_raise _ _)
    · exact Records.refl s
  · split
    · exact (records_setCardState k _ s).trans (records_raise _ _)
    · exact Records.refl s
  · split
    · exact records_setCardState k _ s
    · exact Records.refl s
  · exact Records.refl s

theorem records_enterRest (k : CardSlot) (s : State) : Records s (enterRest k s) := by
  unfold enterRest
  exact (records_setCardState k _ s).trans (records_stalledTest k _)

theorem records_setDuty (n : Nat) (d : Dest) (r : Rendition) (st : DutyState) (reason : Option Reason) (s : State) :
    Records s (setDuty n d r st reason s) := rfl

theorem records_startWrite (k : CardSlot) (x : Shot) (r : Rendition) (header : List Byte) (plan : List Run)
    (s : State) : Records s (startWrite k x r header plan s) := by
  unfold startWrite
  exact (records_setDuty x.slot (destOfSlot k) r .active none s).trans (records_updCard k _ _)

theorem records_enterFull (k : CardSlot) (s : State) : Records s (enterFull k s) := by
  unfold enterFull
  exact ((records_setCardState k _ s).trans (records_raise _ _)).trans (records_redirectFrom k _)

theorem records_selectCard (k : CardSlot) (s : State) : Records s (selectCard k s) := by
  unfold selectCard
  split
  · split
    · exact Records.refl s
    · dsimp only
      generalize fitRuns _ _ _ = plan
      cases plan
      · exact records_enterFull k s
      · exact records_startWrite k _ _ _ _ s
  · exact Records.refl s

theorem records_voidMade (k : CardSlot) (s : State) : Records s (voidMade k s) := by
  unfold voidMade
  exact (records_updCard k _ s).trans (records_raise _ _)

theorem records_appendRecord (k : CardSlot) (p : Placement) (ext : List Run) (s : State) :
    Records s (appendRecord k p ext s) := records_updCard k _ s

theorem records_appendCutVoid (k : CardSlot) (w : ActiveWrite) (s : State) : Records s (appendCutVoid k w s) :=
  records_appendRecord k _ _ s

theorem records_appendErrorVoid (k : CardSlot) (w : ActiveWrite) (s : State) : Records s (appendErrorVoid k w s) :=
  records_appendRecord k _ _ s

theorem records_updCardCounters (k : CardSlot) (f : CardCounters → CardCounters) (s : State) :
    Records s (updCardCounters k f s) := records_updCard k _ s

theorem records_errorMade (k : CardSlot) (s : State) : Records s (errorMade k s) := records_updCardCounters k _ s

theorem records_endDuty (n : Nat) (d : Dest) (r : Rendition) (st : DutyState) (reason : Option Reason) (s : State) :
    Records s (endDuty n d r st reason s) := (stores_endDuty n d r st reason s).records

theorem records_stopWrite (k : CardSlot) (w : ActiveWrite) (s : State) : Records s (stopWrite k w s) := by
  unfold stopWrite
  exact ((records_appendCutVoid k w s).trans (records_updCard k (fun c => { c with write := none }) _)).trans
      (records_voidMade k _)

theorem records_returnWrite (k : CardSlot) (s : State) : Records s (returnWrite k s) := by
  unfold returnWrite
  split
  · exact Records.refl s
  · exact (records_updCard k _ s).trans (stores_setDuty _ _ _ _ _ _).records

theorem records_failDuties (k : CardSlot) (s : State) : Records s (failDuties k s) :=
  Records.foldl _ (fun t _ => (stores_endDuty _ _ _ _ _ t).records) _ s

theorem records_failActive (k : CardSlot) (w : ActiveWrite) (s : State) : Records s (failActive k w s) := by
  cases k
  · simp only [failActive]
    split
    · exact records_redirectDuty _ s
    · exact (stores_endDuty _ _ _ _ _ s).records
  · exact (stores_endDuty _ _ _ _ _ s).records

theorem records_failOrRedirect (k : CardSlot) (s : State) : Records s (failOrRedirect k s) := by
  cases k
  · simp only [failOrRedirect]
    split
    · exact records_redirectAll s
    · exact records_failDuties .a s
  · exact records_failDuties .b s

theorem records_enterFault (k : CardSlot) (ended : Option ActiveWrite) (s : State) :
    Records s (enterFault k ended s) := by
  unfold enterFault
  dsimp only
  refine Records.trans (Records.trans ?_ (records_failOrRedirect k _)) (records_raise _ _)
  cases ended
  · exact records_updCard k _ s
  · exact (records_updCard k _ s).trans (records_failActive k _ _)

theorem records_faultStopping (k : CardSlot) (s : State) : Records s (faultStopping k s) := by
  unfold faultStopping
  split
  · exact (records_stopWrite k _ s).trans (records_enterFault k _ _)
  · exact records_enterFault k none s

theorem records_waiveWrite (k : CardSlot) (w : ActiveWrite) (reason : Reason) (s : State) :
    Records s (waiveWrite k w reason s) := by
  unfold waiveWrite
  exact ((records_stopWrite k w s).trans (stores_endDuty _ _ _ _ _ _).records).trans (records_enterRest k _)

theorem records_completeWrite (k : CardSlot) (w : ActiveWrite) (s : State) : Records s (completeWrite k w s) := by
  unfold completeWrite
  exact (((((records_appendRecord k _ _ s).trans (records_updCard k (fun c => { c with write := none }) _)).trans
      (records_endDuty w.slot (destOfSlot k) w.rend .met none _)).trans (records_updCardCounters k _ _)).trans
      (records_raise _ _)).trans (records_enterRest k _)

theorem records_restartWrite (k : CardSlot) (w : ActiveWrite) (s : State) : Records s (restartWrite k w s) := by
  unfold restartWrite
  generalize fitRuns _ _ _ = plan
  cases plan
  · exact (records_returnWrite k s).trans (records_enterFull k _)
  · exact records_updCard k _ s

theorem records_failBlock (k : CardSlot) (w : ActiveWrite) (s : State) : Records s (failBlock k w s) := by
  unfold failBlock
  split
  · exact (((records_appendErrorVoid k w s).trans (records_voidMade k _)).trans (records_errorMade k _)).trans
      (records_restartWrite k w _)
  · exact (((records_appendCutVoid k w s).trans (records_voidMade k _)).trans (records_errorMade k _)).trans
      (records_enterFault k _ _)

theorem records_startMount (k : CardSlot) (s : State) : Records s (startMount k s) := records_updCard k _ s

theorem records_mounted (k : CardSlot) (capacity : Nat) (s : State) : Records s (mounted k capacity s) := by
  have step : ∀ u, Records s u → Records s (if cardProtect s k then redirectFrom k u else u) := by
    intro u h
    split
    · exact h.trans (records_redirectFrom k u)
    · exact h
  exact step _ (((records_updCard k _ s).trans (records_stalledTest k _)).trans (records_raise (.cardReady k) _))

theorem records_removeCard (k : CardSlot) (s : State) : Records s (removeCard k s) := by
  unfold removeCard
  exact (((records_returnWrite k s).trans (records_updCard k _ _)).trans (records_raise _ _)).trans (records_redirectFrom k _)

theorem records_powerOff (k : CardSlot) (s : State) : Records s (powerOff k s) := by
  unfold powerOff
  exact ((records_returnWrite k s).trans (records_updCard k _ _)).trans (records_redirectFrom k _)

theorem records_powerOnCard (k : CardSlot) (s : State) : Records s (powerOnCard k s) := by
  unfold powerOnCard
  dsimp only
  split
  · exact (records_updCard k _ s).trans (records_startMount k _)
  · exact records_updCard k _ s

/-! ## Transfers and selection -/

theorem settles_setTransfer (x : Option Transfer) (s : State) : Settles s (setTransfer x s) := rfl

theorem settles_startTransfer (x : Shot) (r : Rendition) (s : State) : Settles s (startTransfer x r s) := by
  unfold startTransfer
  exact (stores_setDuty _ _ _ _ _ s).records.settles.trans (settles_setTransfer _ _)

theorem settles_selectTransfer (s : State) : Settles s (selectTransfer s) := by
  unfold selectTransfer
  split
  · split
    · exact settles_startTransfer _ _ s
    · exact Settles.refl s
  · exact Settles.refl s

/-- R130, R152: selection changes duties, the slots and the active transfer, and nothing else. -/
theorem settles_settle (s : State) : Settles s (settle s) := by
  unfold settle
  exact ((records_selectCard .a s).trans (records_selectCard .b _)).settles.trans (settles_selectTransfer _)

/-! ## The release gate -/

theorem captures_updCapture (f : Capture → Capture) (s : State) : Captures s (updCapture f s) := rfl

theorem captures_updBurst (f : BurstRecord → BurstRecord) (s : State) : Captures s (updBurst f s) := rfl

theorem captures_takeNumber (n : Nat) (s : State) : Captures s (takeNumber n s) := rfl

theorem Emits.captures {s t : State} (h : Emits s t) : Captures s t := h.stores.captures

theorem captures_openBurst (s : State) : Captures s (openBurst s) := rfl

theorem captures_endBurst (e : BurstEnd) (s : State) : Captures s (endBurst e s) :=
  (captures_updBurst _ s).trans (emits_raise _ _).captures

theorem captures_joinBurst (n : Nat) (s : State) : Captures s (joinBurst n s) := by
  unfold joinBurst
  dsimp only
  exact Captures.trans (Captures.trans (stores_updShot n _ s).captures (captures_updCapture _ _)) (captures_updBurst _ _)

theorem captures_promoteShot (n : Nat) (s : State) : Captures s (promoteShot n s) := by
  unfold promoteShot
  exact Captures.trans (Captures.trans (stores_updShot n _ s).captures (captures_takeNumber n _)) (captures_joinBurst n _)

theorem captures_promoteHeld : ∀ (l : List Nat) (s : State), Captures s (promoteHeld l s)
  | [], s => Captures.refl s
  | n :: rest, s =>
    ((captures_promoteShot n s).trans (stores_createDuties n _).captures).trans (captures_promoteHeld rest _)

theorem captures_promoteRing (s : State) : Captures s (promoteRing s) := by
  unfold promoteRing
  dsimp only
  refine Captures.trans (Captures.trans ?_ (captures_updCapture _ _)) (captures_updBurst _ _)
  split
  · exact (captures_promoteHeld _ s).trans (captures_promoteShot _ _)
  · exact captures_promoteHeld _ s

theorem captures_enterFiring (s : State) : Captures s (enterFiring s) :=
  ((captures_updCapture _ s).trans (captures_openBurst _)).trans (captures_promoteRing _)

theorem captures_gateTest (s : State) : Captures s (gateTest s) := by
  unfold gateTest
  split
  · exact captures_enterFiring s
  · exact Captures.refl s

theorem captures_discardRing (s : State) : Captures s (discardRing s) :=
  (Stores.foldl _ (fun t n => stores_discardShot n t) _ s).captures.trans (captures_updCapture _ _)

theorem captures_assertRelease (s : State) : Captures s (assertRelease s) := by
  unfold assertRelease
  split
  · split
    · exact captures_enterFiring s
    · exact captures_updCapture _ s
  · split
    · exact captures_enterFiring s
    · exact captures_updCapture _ s
  · exact Captures.refl s

theorem captures_negateRelease (s : State) : Captures s (negateRelease s) := by
  unfold negateRelease
  split
  · split
    · exact captures_updCapture _ s
    · exact (captures_discardRing s).trans (captures_updCapture _ _)
  · exact (captures_endBurst _ s).trans (captures_updCapture _ _)
  · exact (captures_endBurst _ s).trans (captures_updCapture _ _)
  · exact captures_updCapture _ s
  · exact Captures.refl s

theorem captures_assertFocus (s : State) : Captures s (assertFocus s) := by
  unfold assertFocus
  split
  · exact captures_updCapture _ s
  · exact Captures.refl s

theorem captures_negateFocus (s : State) : Captures s (negateFocus s) := by
  unfold negateFocus
  split
  · exact (captures_discardRing s).trans (captures_updCapture _ _)
  · exact captures_discardRing s
  · exact Captures.refl s

theorem captures_releaseChanged (before : Bool) (s : State) : Captures s (releaseChanged before s) := by
  unfold releaseChanged
  split
  · exact Captures.refl s
  · split
    · exact captures_assertRelease s
    · exact captures_negateRelease s

/-- R58, R130, R152: the release gate's test and selection change the store, the development engine, the slots, the
active transfer and capture control, and nothing else. -/
theorem finishes_finish (s : State) : Finishes s (finish s) := (captures_gateTest s).finishes.trans (settles_settle _).finishes

/-! ## Arming and frames -/

/-- R6: admission stays within the store and the shot numbers. -/
theorem captures_admit (n : Nat) (p : Profile) (v : Bool) (s : State) : Captures s (admitShot n p v s).2 := by
  unfold admitShot
  split
  · exact Captures.refl s
  · split
    · exact Captures.refl s
    · dsimp only
      split
      · exact ((stores_updShots _ s).trans (stores_setFree _ _)).captures
      · exact ((stores_updShots _ s).trans (stores_setFree _ _)).captures.trans (captures_takeNumber _ _)

theorem captures_takeSnapshots (n : Nat) (p : Profile) (s : State) : Captures s (takeSnapshots n p s) :=
  (stores_updShot n _ s).captures

theorem captures_setCaptureState (st : CaptureState) (s : State) : Captures s (setCaptureState st s) :=
  captures_updCapture _ s

theorem captures_dueAdmitted (n : Nat) (p : Profile) (s : State) : Captures s (dueAdmitted n p s) := by
  have h : Captures s (updBurst (fun b => { b with post := satInc b.post })
      (setCaptureState .firing (joinBurst n (takeSnapshots n p s)))) :=
    (((captures_takeSnapshots n p s).trans (captures_joinBurst n _)).trans (captures_setCaptureState _ _)).trans
      (captures_updBurst _ _)
  have step : ∀ (b : Bool) u, Captures s u →
      Captures s (if b then setCaptureState .spent (endBurst .limit u) else u) := by
    intro b u k
    split
    · exact k.trans ((captures_endBurst _ u).trans (captures_setCaptureState _ _))
    · exact k
  exact step _ _ h

theorem captures_dueFailed (s : State) : Captures s (dueFailed s) := by
  unfold dueFailed
  split
  · exact (captures_setCaptureState _ s).trans (emits_raise _ _).captures
  · exact Captures.refl s

theorem captures_dueFrame (n : Nat) (p : Profile) (s : State) : Captures s (dueFrame n p s).1 := by
  have h := captures_admit n p false s
  unfold dueFrame
  split
  · exact captures_updBurst _ s
  · split <;> (rename_i e; rw [e] at h)
    · exact h.trans (captures_dueAdmitted _ p _)
    · exact h.trans ((captures_updBurst _ _).trans (captures_dueFailed _))
    · exact h.trans ((captures_updBurst _ _).trans (captures_dueFailed _))

theorem captures_ringFrame (n : Nat) (p : Profile) (s : State) : Captures s (ringFrame n p s).1 := by
  have h := captures_admit n p true s
  unfold ringFrame
  split
  · rename_i e; rw [e] at h
    exact h.trans ((captures_updCapture _ _).trans (captures_takeSnapshots _ p _))
  · rename_i e; rw [e] at h
    exact Captures.trans (t := _) h (captures_updCapture (fun c => { c with skips := satInc c.skips }) _)

theorem captures_burstFrame (n : Nat) (p : Profile) (s : State) : Captures s (burstFrame n p s).1 := by
  unfold burstFrame
  dsimp only
  split
  · exact (captures_updCapture (fun c => { c with burstFrames := c.burstFrames + 1 }) s).trans (captures_dueFrame n p _)
  · exact captures_updCapture (fun c => { c with burstFrames := c.burstFrames + 1 }) s

/-- R59: a frame start stays within what capture control touches. -/
theorem captures_frameStart (s : State) : Captures s (frameStartCapture s).1 := by
  unfold frameStartCapture
  split
  · split
    · exact captures_ringFrame _ _ s
    · split
      · exact captures_ringFrame _ _ s
      · exact Captures.refl s
    · exact captures_burstFrame _ _ s
    · exact captures_burstFrame _ _ s
    · exact Captures.refl s
  · exact Captures.refl s

theorem captures_trimRing (s : State) : Captures s (trimRing s) := by
  unfold trimRing
  split
  · exact Captures.refl s
  · split
    · exact (stores_discardShot _ s).captures.trans (captures_updCapture _ _)
    · exact Captures.refl s

/-- R66: a frame end stays within what capture control touches. -/
theorem captures_frameEnd (n : Nat) (s : State) : Captures s (frameEndCapture n s) := by
  have h : Captures s (rawReady n s) := (stores_updShot n _ s).captures
  unfold frameEndCapture
  split
  · exact Captures.refl s
  · dsimp only
    split
    · exact h.trans (stores_createDuties n _).captures
    · split
      · exact h.trans ((captures_trimRing _).trans ((stores_updShot n _ _).captures.trans (captures_updCapture _ _)))
      · exact h.trans (stores_discardShot n _).captures

end Sys2Proof.Machine
end

