-- ==== Sys2Proof/Laws/Kept.lean ====
section
/-! SUPPORT. What each of the relations of Safety.lean leaves alone, field by field. -/

namespace Sys2Proof.Machine

namespace Stores
variable {s t : State} (h : Stores s t)
include h

theorem pending : t.pending = s.pending := (congrArg State.pending h :)

theorem pins : t.pins = s.pins := (congrArg State.pins h :)

theorem intake : t.intake = s.intake := (congrArg State.intake h :)

theorem capture : t.capture = s.capture := (congrArg State.capture h :)

theorem lens : t.lens = s.lens := (congrArg State.lens h :)

theorem focus : t.focus = s.focus := (congrArg State.focus h :)

theorem cardA : t.cardA = s.cardA := (congrArg State.cardA h :)

theorem cardB : t.cardB = s.cardB := (congrArg State.cardB h :)

theorem cardMode : t.cardMode = s.cardMode := (congrArg State.cardMode h :)

theorem opState : t.control.opState = s.control.opState := (congrArg (fun x : State => x.control.opState) h :)

theorem timeBase : t.control.timeBase = s.control.timeBase := (congrArg (fun x : State => x.control.timeBase) h :)

theorem floor : t.store.floor = s.store.floor := (congrArg (fun x : State => x.store.floor) h :)

theorem routing : t.store.routing = s.store.routing := (congrArg (fun x : State => x.store.routing) h :)

theorem settings : t.tether.settings = s.tether.settings := (congrArg (fun x : State => x.tether.settings) h :)

theorem link : t.tether.link = s.tether.link := (congrArg (fun x : State => x.tether.link) h :)

theorem hostQueue : t.hostChan.queue = s.hostChan.queue := (congrArg (fun x : State => x.hostChan.queue) h :)

theorem deskQueue : t.deskChan.queue = s.deskChan.queue := (congrArg (fun x : State => x.deskChan.queue) h :)

end Stores

namespace Captures
variable {s t : State} (h : Captures s t)
include h

theorem pending : t.pending = s.pending := (congrArg State.pending h :)

theorem pins : t.pins = s.pins := (congrArg State.pins h :)

theorem intake : t.intake = s.intake := (congrArg State.intake h :)

theorem lens : t.lens = s.lens := (congrArg State.lens h :)

theorem focus : t.focus = s.focus := (congrArg State.focus h :)

theorem cardA : t.cardA = s.cardA := (congrArg State.cardA h :)

theorem cardB : t.cardB = s.cardB := (congrArg State.cardB h :)

theorem cardMode : t.cardMode = s.cardMode := (congrArg State.cardMode h :)

theorem opState : t.control.opState = s.control.opState := (congrArg (fun x : State => x.control.opState) h :)

theorem timeBase : t.control.timeBase = s.control.timeBase := (congrArg (fun x : State => x.control.timeBase) h :)

theorem floor : t.store.floor = s.store.floor := (congrArg (fun x : State => x.store.floor) h :)

theorem routing : t.store.routing = s.store.routing := (congrArg (fun x : State => x.store.routing) h :)

theorem settings : t.tether.settings = s.tether.settings := (congrArg (fun x : State => x.tether.settings) h :)

theorem link : t.tether.link = s.tether.link := (congrArg (fun x : State => x.tether.link) h :)

theorem hostQueue : t.hostChan.queue = s.hostChan.queue := (congrArg (fun x : State => x.hostChan.queue) h :)

theorem deskQueue : t.deskChan.queue = s.deskChan.queue := (congrArg (fun x : State => x.deskChan.queue) h :)

end Captures

namespace Records
variable {s t : State} (h : Records s t)
include h

theorem pending : t.pending = s.pending := (congrArg State.pending h :)

theorem pins : t.pins = s.pins := (congrArg State.pins h :)

theorem intake : t.intake = s.intake := (congrArg State.intake h :)

theorem capture : t.capture = s.capture := (congrArg State.capture h :)

theorem lens : t.lens = s.lens := (congrArg State.lens h :)

theorem focus : t.focus = s.focus := (congrArg State.focus h :)

theorem cardMode : t.cardMode = s.cardMode := (congrArg State.cardMode h :)

theorem opState : t.control.opState = s.control.opState := (congrArg (fun x : State => x.control.opState) h :)

theorem timeBase : t.control.timeBase = s.control.timeBase := (congrArg (fun x : State => x.control.timeBase) h :)

theorem floor : t.store.floor = s.store.floor := (congrArg (fun x : State => x.store.floor) h :)

theorem routing : t.store.routing = s.store.routing := (congrArg (fun x : State => x.store.routing) h :)

theorem settings : t.tether.settings = s.tether.settings := (congrArg (fun x : State => x.tether.settings) h :)

theorem link : t.tether.link = s.tether.link := (congrArg (fun x : State => x.tether.link) h :)

theorem hostQueue : t.hostChan.queue = s.hostChan.queue := (congrArg (fun x : State => x.hostChan.queue) h :)

theorem deskQueue : t.deskChan.queue = s.deskChan.queue := (congrArg (fun x : State => x.deskChan.queue) h :)

end Records

namespace Settles
variable {s t : State} (h : Settles s t)
include h

theorem pending : t.pending = s.pending := (congrArg State.pending h :)

theorem pins : t.pins = s.pins := (congrArg State.pins h :)

theorem intake : t.intake = s.intake := (congrArg State.intake h :)

theorem capture : t.capture = s.capture := (congrArg State.capture h :)

theorem lens : t.lens = s.lens := (congrArg State.lens h :)

theorem focus : t.focus = s.focus := (congrArg State.focus h :)

theorem cardMode : t.cardMode = s.cardMode := (congrArg State.cardMode h :)

theorem opState : t.control.opState = s.control.opState := (congrArg (fun x : State => x.control.opState) h :)

theorem timeBase : t.control.timeBase = s.control.timeBase := (congrArg (fun x : State => x.control.timeBase) h :)

theorem floor : t.store.floor = s.store.floor := (congrArg (fun x : State => x.store.floor) h :)

theorem routing : t.store.routing = s.store.routing := (congrArg (fun x : State => x.store.routing) h :)

theorem settings : t.tether.settings = s.tether.settings := (congrArg (fun x : State => x.tether.settings) h :)

theorem link : t.tether.link = s.tether.link := (congrArg (fun x : State => x.tether.link) h :)

theorem hostQueue : t.hostChan.queue = s.hostChan.queue := (congrArg (fun x : State => x.hostChan.queue) h :)

theorem deskQueue : t.deskChan.queue = s.deskChan.queue := (congrArg (fun x : State => x.deskChan.queue) h :)

end Settles

namespace Finishes
variable {s t : State} (h : Finishes s t)
include h

theorem pending : t.pending = s.pending := (congrArg State.pending h :)

theorem pins : t.pins = s.pins := (congrArg State.pins h :)

theorem intake : t.intake = s.intake := (congrArg State.intake h :)

theorem lens : t.lens = s.lens := (congrArg State.lens h :)

theorem focus : t.focus = s.focus := (congrArg State.focus h :)

theorem cardMode : t.cardMode = s.cardMode := (congrArg State.cardMode h :)

theorem opState : t.control.opState = s.control.opState := (congrArg (fun x : State => x.control.opState) h :)

theorem timeBase : t.control.timeBase = s.control.timeBase := (congrArg (fun x : State => x.control.timeBase) h :)

theorem floor : t.store.floor = s.store.floor := (congrArg (fun x : State => x.store.floor) h :)

theorem routing : t.store.routing = s.store.routing := (congrArg (fun x : State => x.store.routing) h :)

theorem settings : t.tether.settings = s.tether.settings := (congrArg (fun x : State => x.tether.settings) h :)

theorem link : t.tether.link = s.tether.link := (congrArg (fun x : State => x.tether.link) h :)

theorem hostQueue : t.hostChan.queue = s.hostChan.queue := (congrArg (fun x : State => x.hostChan.queue) h :)

theorem deskQueue : t.deskChan.queue = s.deskChan.queue := (congrArg (fun x : State => x.deskChan.queue) h :)

end Finishes

end Sys2Proof.Machine
end

