-- ==== Sys2Proof/Laws/Pack.lean ====
section
/-! SUPPORT. What the raw packer's items are (R41): literals close groups of 64, a maximal run of three or more becomes
run items, and a line packs part by part around it. -/

namespace Sys2Proof.Machine

/-! ## Groups -/

/-- Literals behind a group of fewer than 64 fill groups of 64 and leave a group of fewer. -/
theorem groupTokens_literals : ∀ (l current : List Nat), current.length < 64 →
    ∃ (front : List (List Nat)) (last : List Nat), current ++ l = front.flatten ++ last ∧
      (∀ g ∈ front, g.length = 64) ∧ last.length < 64 ∧
      groupTokens (l.map .literal) current = front.map .group ++ closeGroup last
  | [], current, h => ⟨[], current, by simp, by simp, h, by simp [groupTokens]⟩
  | v :: rest, current, h => by
    simp only [List.map_cons, groupTokens]
    split
    · rename_i hlt
      obtain ⟨front, last, e, h64, hl, hg⟩ :=
        groupTokens_literals rest (current ++ [v]) (by simp; omega)
      exact ⟨front, last, by rw [← e]; simp, h64, hl, hg⟩
    · rename_i hge
      obtain ⟨front, last, e, h64, hl, hg⟩ := groupTokens_literals rest [] (by simp)
      refine ⟨(current ++ [v]) :: front, last, ?_, ?_, hl, ?_⟩
      · simp only [List.nil_append] at e
        simp [e]
      · intro g hm
        rcases List.mem_cons.1 hm with rfl | hm
        · simp; omega
        · exact h64 g hm
      · rw [hg]; simp

/-- A run item closes the group before it, and what follows starts a new one. -/
theorem groupTokens_run (v c : Nat) (after : List PackToken) : ∀ (before : List PackToken) (current : List Nat),
    groupTokens (before ++ .run v c :: after) current =
      groupTokens before current ++ .run v c :: groupTokens after []
  | [], current => by simp [groupTokens]
  | .literal w :: rest, current => by
    simp only [List.cons_append, groupTokens]
    split
    · exact groupTokens_run v c after rest _
    · rw [groupTokens_run v c after rest]; simp
  | .run w d :: rest, current => by
    simp only [List.cons_append, groupTokens]
    rw [groupTokens_run v c after rest]; simp

/-- Several run items of one value. -/
theorem groupTokens_runs (v c : Nat) (after : List PackToken) : ∀ (n : Nat) (before : List PackToken)
    (current : List Nat), 1 ≤ n →
    groupTokens (before ++ (List.replicate n (.run v c) ++ after)) current =
      groupTokens before current ++ (List.replicate n (.run v c) ++ groupTokens after [])
  | 1, before, current, _ => by
    simpa using groupTokens_run v c after before current
  | n + 2, before, current, _ => by
    have e := groupTokens_run v c (List.replicate (n + 1) (.run v c) ++ after) before current
    rw [List.replicate_succ, List.cons_append, e]
    have e2 := groupTokens_runs v c after (n + 1) [] [] (by omega)
    simp only [List.nil_append] at e2
    rw [e2]
    simp [groupTokens, closeGroup, List.replicate_succ (n := n + 1)]

/-! ## Maximal runs -/

/-- The first maximal run is of the line's first sample. -/
theorem sampleRuns_head : ∀ l : List Nat, (sampleRuns l).head?.map (fun p => p.1) = l.head?
  | [] => rfl
  | v :: rest => by
    unfold sampleRuns
    split
    · rfl
    · split
      · rename_i h; simp
      · rfl

/-- A run at the front, up to a sample of another value. -/
theorem sampleRuns_replicate (v : Nat) (back : List Nat) (h : back.head? ≠ some v) :
    ∀ c : Nat, 1 ≤ c → sampleRuns (List.replicate c v ++ back) = (v, c) :: sampleRuns back
  | 1, _ => by
    simp only [List.replicate_one, List.cons_append, List.nil_append, sampleRuns]
    have hh := sampleRuns_head back
    split
    · rename_i e; rw [e]
    · rename_i w d more e
      rw [e] at hh
      simp only [List.head?_cons, Option.map_some] at hh
      have : ¬ v = w := by rintro rfl; exact h hh.symm
      simp [this, e]
  | c + 2, _ => by
    rw [List.replicate_succ, List.cons_append, sampleRuns, sampleRuns_replicate v back h (c + 1) (by omega)]
    simp

/-- A maximal run inside a line. -/
theorem sampleRuns_split (v c : Nat) (back : List Nat) (hc : 1 ≤ c) (hb : back.head? ≠ some v) :
    ∀ front : List Nat, front.getLast? ≠ some v →
      sampleRuns (front ++ (List.replicate c v ++ back)) = sampleRuns front ++ (v, c) :: sampleRuns back
  | [], _ => by simpa [sampleRuns] using sampleRuns_replicate v back hb c hc
  | [w], hf => by
    have : ¬ w = v := by rintro rfl; exact hf rfl
    simp [sampleRuns, sampleRuns_replicate v back hb c hc, this]
  | w :: u :: rest, hf => by
    have e := sampleRuns_split v c back hc hb (u :: rest) (by simpa using hf)
    rw [List.cons_append, sampleRuns, e]
    rcases hr : sampleRuns (u :: rest) with _ | ⟨⟨a, d⟩, more⟩
    · have hh := sampleRuns_head (u :: rest)
      rw [hr] at hh; simp at hh
    · rw [sampleRuns, hr]
      simp only [List.cons_append]
      split <;> simp

/-- The runs of a line spell it out. -/
theorem sampleRuns_spell : ∀ l : List Nat, ((sampleRuns l).map fun p => List.replicate p.2 p.1).flatten = l
  | [] => rfl
  | v :: rest => by
    have ih := sampleRuns_spell rest
    unfold sampleRuns
    split
    · rename_i e; rw [e] at ih; simp at ih; simp [← ih]
    · rename_i w c more e
      rw [e] at ih
      split
      · rename_i h
        rw [beq_iff_eq] at h
        subst h
        rw [← ih]; simp [List.replicate_succ]
      · rw [← ih]; simp

/-! ## Tokens -/

/-- A line without three samples alike in a row has literals only. -/
theorem lineTokens_literals {l : List Nat} (h : ∀ front v back, l ≠ front ++ [v, v, v] ++ back) (coding : Bool) :
    lineTokens coding l = l.map .literal := by
  cases coding
  · rfl
  · unfold lineTokens
    simp only [if_true]
    have hs := sampleRuns_spell l
    have key : ∀ runs : List (Nat × Nat), (∀ p ∈ runs, p.2 < 3) →
        (runs.map fun p => runTokens p.1 p.2).flatten =
          ((runs.map fun p => List.replicate p.2 p.1).flatten).map .literal := by
      intro runs
      induction runs with
      | nil => intro _; rfl
      | cons p more ih =>
        intro hp
        have h3 : p.2 < 3 := hp p List.mem_cons_self
        have hm := ih fun q hq => hp q (List.mem_cons_of_mem _ hq)
        simp only [List.map_cons, List.flatten_cons, List.map_append, hm]
        simp [runTokens, h3]
    rw [key _ ?_, hs]
    intro p hp
    rcases Nat.lt_or_ge p.2 3 with hlt | hge
    · exact hlt
    exfalso
    obtain ⟨before, after, e⟩ := List.append_of_mem hp
    rw [e] at hs
    obtain ⟨k, hk⟩ : ∃ k, p.2 = k + 3 := ⟨p.2 - 3, by omega⟩
    refine h ((before.map fun q => List.replicate q.2 q.1).flatten) p.1
      (List.replicate k p.1 ++ (after.map fun q => List.replicate q.2 q.1).flatten) ?_
    rw [← hs]
    simp [hk, List.replicate_succ]

/-- The tokens of a line around a maximal run. -/
theorem lineTokens_split {front back : List Nat} {v c : Nat} (hc : 1 ≤ c) (hf : front.getLast? ≠ some v)
    (hb : back.head? ≠ some v) :
    lineTokens true (front ++ (List.replicate c v ++ back)) =
      lineTokens true front ++ (runTokens v c ++ lineTokens true back) := by
  simp [lineTokens, sampleRuns_split v c back hc hb front hf]

end Sys2Proof.Machine
end

