-- ==== Sys2Proof/Laws/State.lean ====
section
/-! SUPPORT. One lemma per named update of `State`: the field it changes, and the fields it leaves. -/

namespace Sys2Proof.Machine

@[simp] theorem updLens_lens (f : Lens → Lens) (s : State) :
    (updLens f s).lens = f s.lens := rfl

@[simp] theorem updLens_others (f : Lens → Lens) (s : State) :
    (updLens f s).pending = s.pending ∧ (updLens f s).pins = s.pins ∧ (updLens f s).control = s.control ∧
    (updLens f s).hostChan = s.hostChan ∧ (updLens f s).deskChan = s.deskChan ∧ (updLens f s).store = s.store ∧
    (updLens f s).intake = s.intake ∧ (updLens f s).capture = s.capture ∧ (updLens f s).focus = s.focus ∧
    (updLens f s).dev = s.dev ∧ (updLens f s).cardA = s.cardA ∧ (updLens f s).cardB = s.cardB ∧
    (updLens f s).cardMode = s.cardMode ∧ (updLens f s).tether = s.tether :=
  ⟨rfl, rfl, rfl, rfl, rfl, rfl, rfl, rfl, rfl, rfl, rfl, rfl, rfl, rfl⟩

@[simp] theorem updFocus_focus (f : Focus → Focus) (s : State) :
    (updFocus f s).focus = f s.focus := rfl

@[simp] theorem updFocus_others (f : Focus → Focus) (s : State) :
    (updFocus f s).pending = s.pending ∧ (updFocus f s).pins = s.pins ∧ (updFocus f s).control = s.control ∧
    (updFocus f s).hostChan = s.hostChan ∧ (updFocus f s).deskChan = s.deskChan ∧ (updFocus f s).store = s.store ∧
    (updFocus f s).intake = s.intake ∧ (updFocus f s).capture = s.capture ∧ (updFocus f s).lens = s.lens ∧
    (updFocus f s).dev = s.dev ∧ (updFocus f s).cardA = s.cardA ∧ (updFocus f s).cardB = s.cardB ∧
    (updFocus f s).cardMode = s.cardMode ∧ (updFocus f s).tether = s.tether :=
  ⟨rfl, rfl, rfl, rfl, rfl, rfl, rfl, rfl, rfl, rfl, rfl, rfl, rfl, rfl⟩

@[simp] theorem updIntake_intake (f : Intake → Intake) (s : State) :
    (updIntake f s).intake = f s.intake := rfl

@[simp] theorem updIntake_others (f : Intake → Intake) (s : State) :
    (updIntake f s).pending = s.pending ∧ (updIntake f s).pins = s.pins ∧ (updIntake f s).control = s.control ∧
    (updIntake f s).hostChan = s.hostChan ∧ (updIntake f s).deskChan = s.deskChan ∧ (updIntake f s).store = s.store ∧
    (updIntake f s).capture = s.capture ∧ (updIntake f s).lens = s.lens ∧ (updIntake f s).focus = s.focus ∧
    (updIntake f s).dev = s.dev ∧ (updIntake f s).cardA = s.cardA ∧ (updIntake f s).cardB = s.cardB ∧
    (updIntake f s).cardMode = s.cardMode ∧ (updIntake f s).tether = s.tether :=
  ⟨rfl, rfl, rfl, rfl, rfl, rfl, rfl, rfl, rfl, rfl, rfl, rfl, rfl, rfl⟩

@[simp] theorem updFrame_intake (f : OpenFrame → OpenFrame) (s : State) :
    (updFrame f s).intake = { s.intake with frame := s.intake.frame.map f } := rfl

@[simp] theorem updFrame_others (f : OpenFrame → OpenFrame) (s : State) :
    (updFrame f s).pending = s.pending ∧ (updFrame f s).pins = s.pins ∧ (updFrame f s).control = s.control ∧
    (updFrame f s).hostChan = s.hostChan ∧ (updFrame f s).deskChan = s.deskChan ∧ (updFrame f s).store = s.store ∧
    (updFrame f s).capture = s.capture ∧ (updFrame f s).lens = s.lens ∧ (updFrame f s).focus = s.focus ∧
    (updFrame f s).dev = s.dev ∧ (updFrame f s).cardA = s.cardA ∧ (updFrame f s).cardB = s.cardB ∧
    (updFrame f s).cardMode = s.cardMode ∧ (updFrame f s).tether = s.tether :=
  ⟨rfl, rfl, rfl, rfl, rfl, rfl, rfl, rfl, rfl, rfl, rfl, rfl, rfl, rfl⟩

@[simp] theorem reduceLine_intake (samples : List Nat) (s : State) :
    (reduceLine samples s).intake =
      { s.intake with
        frame := s.intake.frame.map fun f =>
          if f.liveBuffer.isSome then { f with reduced := f.reduced ++ [samples] } else f } := rfl

@[simp] theorem reduceLine_others (samples : List Nat) (s : State) :
    (reduceLine samples s).pending = s.pending ∧ (reduceLine samples s).pins = s.pins ∧
    (reduceLine samples s).control = s.control ∧ (reduceLine samples s).hostChan = s.hostChan ∧
    (reduceLine samples s).deskChan = s.deskChan ∧ (reduceLine samples s).store = s.store ∧
    (reduceLine samples s).capture = s.capture ∧ (reduceLine samples s).lens = s.lens ∧
    (reduceLine samples s).focus = s.focus ∧ (reduceLine samples s).dev = s.dev ∧
    (reduceLine samples s).cardA = s.cardA ∧ (reduceLine samples s).cardB = s.cardB ∧
    (reduceLine samples s).cardMode = s.cardMode ∧ (reduceLine samples s).tether = s.tether :=
  ⟨rfl, rfl, rfl, rfl, rfl, rfl, rfl, rfl, rfl, rfl, rfl, rfl, rfl, rfl⟩

@[simp] theorem updCapture_capture (f : Capture → Capture) (s : State) :
    (updCapture f s).capture = f s.capture := rfl

@[simp] theorem updCapture_others (f : Capture → Capture) (s : State) :
    (updCapture f s).pending = s.pending ∧ (updCapture f s).pins = s.pins ∧ (updCapture f s).control = s.control ∧
    (updCapture f s).hostChan = s.hostChan ∧ (updCapture f s).deskChan = s.deskChan ∧
    (updCapture f s).store = s.store ∧ (updCapture f s).intake = s.intake ∧ (updCapture f s).lens = s.lens ∧
    (updCapture f s).focus = s.focus ∧ (updCapture f s).dev = s.dev ∧ (updCapture f s).cardA = s.cardA ∧
    (updCapture f s).cardB = s.cardB ∧ (updCapture f s).cardMode = s.cardMode ∧ (updCapture f s).tether = s.tether :=
  ⟨rfl, rfl, rfl, rfl, rfl, rfl, rfl, rfl, rfl, rfl, rfl, rfl, rfl, rfl⟩

@[simp] theorem updStore_store (f : Store → Store) (s : State) :
    (updStore f s).store = f s.store := rfl

@[simp] theorem updStore_others (f : Store → Store) (s : State) :
    (updStore f s).pending = s.pending ∧ (updStore f s).pins = s.pins ∧ (updStore f s).control = s.control ∧
    (updStore f s).hostChan = s.hostChan ∧ (updStore f s).deskChan = s.deskChan ∧ (updStore f s).intake = s.intake ∧
    (updStore f s).capture = s.capture ∧ (updStore f s).lens = s.lens ∧ (updStore f s).focus = s.focus ∧
    (updStore f s).dev = s.dev ∧ (updStore f s).cardA = s.cardA ∧ (updStore f s).cardB = s.cardB ∧
    (updStore f s).cardMode = s.cardMode ∧ (updStore f s).tether = s.tether :=
  ⟨rfl, rfl, rfl, rfl, rfl, rfl, rfl, rfl, rfl, rfl, rfl, rfl, rfl, rfl⟩

@[simp] theorem updShots_store (f : List Shot → List Shot) (s : State) :
    (updShots f s).store = { s.store with shots := f s.store.shots } := rfl

@[simp] theorem updShots_others (f : List Shot → List Shot) (s : State) :
    (updShots f s).pending = s.pending ∧ (updShots f s).pins = s.pins ∧ (updShots f s).control = s.control ∧
    (updShots f s).hostChan = s.hostChan ∧ (updShots f s).deskChan = s.deskChan ∧ (updShots f s).intake = s.intake ∧
    (updShots f s).capture = s.capture ∧ (updShots f s).lens = s.lens ∧ (updShots f s).focus = s.focus ∧
    (updShots f s).dev = s.dev ∧ (updShots f s).cardA = s.cardA ∧ (updShots f s).cardB = s.cardB ∧
    (updShots f s).cardMode = s.cardMode ∧ (updShots f s).tether = s.tether :=
  ⟨rfl, rfl, rfl, rfl, rfl, rfl, rfl, rfl, rfl, rfl, rfl, rfl, rfl, rfl⟩

@[simp] theorem updShot_store (n : Nat) (f : Shot → Shot) (s : State) :
    (updShot n f s).store = { s.store with shots := s.store.shots.map fun x => if x.slot == n then f x else x } := rfl

@[simp] theorem updShot_others (n : Nat) (f : Shot → Shot) (s : State) :
    (updShot n f s).pending = s.pending ∧ (updShot n f s).pins = s.pins ∧ (updShot n f s).control = s.control ∧
    (updShot n f s).hostChan = s.hostChan ∧ (updShot n f s).deskChan = s.deskChan ∧
    (updShot n f s).intake = s.intake ∧ (updShot n f s).capture = s.capture ∧ (updShot n f s).lens = s.lens ∧
    (updShot n f s).focus = s.focus ∧ (updShot n f s).dev = s.dev ∧ (updShot n f s).cardA = s.cardA ∧
    (updShot n f s).cardB = s.cardB ∧ (updShot n f s).cardMode = s.cardMode ∧ (updShot n f s).tether = s.tether :=
  ⟨rfl, rfl, rfl, rfl, rfl, rfl, rfl, rfl, rfl, rfl, rfl, rfl, rfl, rfl⟩

@[simp] theorem updSettings_tether (f : TetherSettings → TetherSettings) (s : State) :
    (updSettings f s).tether = { s.tether with settings := f s.tether.settings } := rfl

@[simp] theorem updSettings_others (f : TetherSettings → TetherSettings) (s : State) :
    (updSettings f s).pending = s.pending ∧ (updSettings f s).pins = s.pins ∧ (updSettings f s).control = s.control ∧
    (updSettings f s).hostChan = s.hostChan ∧ (updSettings f s).deskChan = s.deskChan ∧
    (updSettings f s).store = s.store ∧ (updSettings f s).intake = s.intake ∧ (updSettings f s).capture = s.capture ∧
    (updSettings f s).lens = s.lens ∧ (updSettings f s).focus = s.focus ∧ (updSettings f s).dev = s.dev ∧
    (updSettings f s).cardA = s.cardA ∧ (updSettings f s).cardB = s.cardB ∧
    (updSettings f s).cardMode = s.cardMode :=
  ⟨rfl, rfl, rfl, rfl, rfl, rfl, rfl, rfl, rfl, rfl, rfl, rfl, rfl, rfl⟩

@[simp] theorem updTetherCounters_tether (f : TetherCounters → TetherCounters) (s : State) :
    (updTetherCounters f s).tether = { s.tether with counters := f s.tether.counters } := rfl

@[simp] theorem updTetherCounters_others (f : TetherCounters → TetherCounters) (s : State) :
    (updTetherCounters f s).pending = s.pending ∧ (updTetherCounters f s).pins = s.pins ∧
    (updTetherCounters f s).control = s.control ∧ (updTetherCounters f s).hostChan = s.hostChan ∧
    (updTetherCounters f s).deskChan = s.deskChan ∧ (updTetherCounters f s).store = s.store ∧
    (updTetherCounters f s).intake = s.intake ∧ (updTetherCounters f s).capture = s.capture ∧
    (updTetherCounters f s).lens = s.lens ∧ (updTetherCounters f s).focus = s.focus ∧
    (updTetherCounters f s).dev = s.dev ∧ (updTetherCounters f s).cardA = s.cardA ∧
    (updTetherCounters f s).cardB = s.cardB ∧ (updTetherCounters f s).cardMode = s.cardMode :=
  ⟨rfl, rfl, rfl, rfl, rfl, rfl, rfl, rfl, rfl, rfl, rfl, rfl, rfl, rfl⟩

@[simp] theorem setTransfer_tether (x : Option Transfer) (s : State) :
    (setTransfer x s).tether = { s.tether with transfer := x } := rfl

@[simp] theorem setTransfer_others (x : Option Transfer) (s : State) :
    (setTransfer x s).pending = s.pending ∧ (setTransfer x s).pins = s.pins ∧ (setTransfer x s).control = s.control ∧
    (setTransfer x s).hostChan = s.hostChan ∧ (setTransfer x s).deskChan = s.deskChan ∧
    (setTransfer x s).store = s.store ∧ (setTransfer x s).intake = s.intake ∧ (setTransfer x s).capture = s.capture ∧
    (setTransfer x s).lens = s.lens ∧ (setTransfer x s).focus = s.focus ∧ (setTransfer x s).dev = s.dev ∧
    (setTransfer x s).cardA = s.cardA ∧ (setTransfer x s).cardB = s.cardB ∧
    (setTransfer x s).cardMode = s.cardMode :=
  ⟨rfl, rfl, rfl, rfl, rfl, rfl, rfl, rfl, rfl, rfl, rfl, rfl, rfl, rfl⟩

@[simp] theorem setLink_tether (l : LinkState) (s : State) :
    (setLink l s).tether = { s.tether with link := l } := rfl

@[simp] theorem setLink_others (l : LinkState) (s : State) :
    (setLink l s).pending = s.pending ∧ (setLink l s).pins = s.pins ∧ (setLink l s).control = s.control ∧
    (setLink l s).hostChan = s.hostChan ∧ (setLink l s).deskChan = s.deskChan ∧ (setLink l s).store = s.store ∧
    (setLink l s).intake = s.intake ∧ (setLink l s).capture = s.capture ∧ (setLink l s).lens = s.lens ∧
    (setLink l s).focus = s.focus ∧ (setLink l s).dev = s.dev ∧ (setLink l s).cardA = s.cardA ∧
    (setLink l s).cardB = s.cardB ∧ (setLink l s).cardMode = s.cardMode :=
  ⟨rfl, rfl, rfl, rfl, rfl, rfl, rfl, rfl, rfl, rfl, rfl, rfl, rfl, rfl⟩

@[simp] theorem setRecord_tether (m : Option Mode) (w : Nat) (r : NegResult) (s : State) :
    (setRecord m w r s).tether = { s.tether with mode := m, window := w, result := r } := rfl

@[simp] theorem setRecord_others (m : Option Mode) (w : Nat) (r : NegResult) (s : State) :
    (setRecord m w r s).pending = s.pending ∧ (setRecord m w r s).pins = s.pins ∧
    (setRecord m w r s).control = s.control ∧ (setRecord m w r s).hostChan = s.hostChan ∧
    (setRecord m w r s).deskChan = s.deskChan ∧ (setRecord m w r s).store = s.store ∧
    (setRecord m w r s).intake = s.intake ∧ (setRecord m w r s).capture = s.capture ∧
    (setRecord m w r s).lens = s.lens ∧ (setRecord m w r s).focus = s.focus ∧ (setRecord m w r s).dev = s.dev ∧
    (setRecord m w r s).cardA = s.cardA ∧ (setRecord m w r s).cardB = s.cardB ∧
    (setRecord m w r s).cardMode = s.cardMode :=
  ⟨rfl, rfl, rfl, rfl, rfl, rfl, rfl, rfl, rfl, rfl, rfl, rfl, rfl, rfl⟩

@[simp] theorem pushFrames_tether (l : List TetherFrame) (s : State) :
    (pushFrames l s).tether = { s.tether with ready := s.tether.ready ++ l } := rfl

@[simp] theorem pushFrames_others (l : List TetherFrame) (s : State) :
    (pushFrames l s).pending = s.pending ∧ (pushFrames l s).pins = s.pins ∧ (pushFrames l s).control = s.control ∧
    (pushFrames l s).hostChan = s.hostChan ∧ (pushFrames l s).deskChan = s.deskChan ∧
    (pushFrames l s).store = s.store ∧ (pushFrames l s).intake = s.intake ∧ (pushFrames l s).capture = s.capture ∧
    (pushFrames l s).lens = s.lens ∧ (pushFrames l s).focus = s.focus ∧ (pushFrames l s).dev = s.dev ∧
    (pushFrames l s).cardA = s.cardA ∧ (pushFrames l s).cardB = s.cardB ∧ (pushFrames l s).cardMode = s.cardMode :=
  ⟨rfl, rfl, rfl, rfl, rfl, rfl, rfl, rfl, rfl, rfl, rfl, rfl, rfl, rfl⟩

@[simp] theorem setOpState_control (x : OpState) (s : State) :
    (setOpState x s).control = { s.control with opState := x } := rfl

@[simp] theorem setOpState_others (x : OpState) (s : State) :
    (setOpState x s).pending = s.pending ∧ (setOpState x s).pins = s.pins ∧ (setOpState x s).hostChan = s.hostChan ∧
    (setOpState x s).deskChan = s.deskChan ∧ (setOpState x s).store = s.store ∧ (setOpState x s).intake = s.intake ∧
    (setOpState x s).capture = s.capture ∧ (setOpState x s).lens = s.lens ∧ (setOpState x s).focus = s.focus ∧
    (setOpState x s).dev = s.dev ∧ (setOpState x s).cardA = s.cardA ∧ (setOpState x s).cardB = s.cardB ∧
    (setOpState x s).cardMode = s.cardMode ∧ (setOpState x s).tether = s.tether :=
  ⟨rfl, rfl, rfl, rfl, rfl, rfl, rfl, rfl, rfl, rfl, rfl, rfl, rfl, rfl⟩

@[simp] theorem updCardA_cardA (f : Card → Card) (s : State) :
    (updCard .a f s).cardA = f s.cardA := rfl

@[simp] theorem updCardA_others (f : Card → Card) (s : State) :
    (updCard .a f s).pending = s.pending ∧ (updCard .a f s).pins = s.pins ∧ (updCard .a f s).control = s.control ∧
    (updCard .a f s).hostChan = s.hostChan ∧ (updCard .a f s).deskChan = s.deskChan ∧
    (updCard .a f s).store = s.store ∧ (updCard .a f s).intake = s.intake ∧ (updCard .a f s).capture = s.capture ∧
    (updCard .a f s).lens = s.lens ∧ (updCard .a f s).focus = s.focus ∧ (updCard .a f s).dev = s.dev ∧
    (updCard .a f s).cardB = s.cardB ∧ (updCard .a f s).cardMode = s.cardMode ∧ (updCard .a f s).tether = s.tether :=
  ⟨rfl, rfl, rfl, rfl, rfl, rfl, rfl, rfl, rfl, rfl, rfl, rfl, rfl, rfl⟩

@[simp] theorem updCardB_cardB (f : Card → Card) (s : State) :
    (updCard .b f s).cardB = f s.cardB := rfl

@[simp] theorem updCardB_others (f : Card → Card) (s : State) :
    (updCard .b f s).pending = s.pending ∧ (updCard .b f s).pins = s.pins ∧ (updCard .b f s).control = s.control ∧
    (updCard .b f s).hostChan = s.hostChan ∧ (updCard .b f s).deskChan = s.deskChan ∧
    (updCard .b f s).store = s.store ∧ (updCard .b f s).intake = s.intake ∧ (updCard .b f s).capture = s.capture ∧
    (updCard .b f s).lens = s.lens ∧ (updCard .b f s).focus = s.focus ∧ (updCard .b f s).dev = s.dev ∧
    (updCard .b f s).cardA = s.cardA ∧ (updCard .b f s).cardMode = s.cardMode ∧ (updCard .b f s).tether = s.tether :=
  ⟨rfl, rfl, rfl, rfl, rfl, rfl, rfl, rfl, rfl, rfl, rfl, rfl, rfl, rfl⟩

@[simp] theorem updHost_hostChan (f : Chan → Chan) (s : State) :
    (updChan .host f s).hostChan = f s.hostChan := rfl

@[simp] theorem updHost_others (f : Chan → Chan) (s : State) :
    (updChan .host f s).pending = s.pending ∧ (updChan .host f s).pins = s.pins ∧
    (updChan .host f s).control = s.control ∧ (updChan .host f s).deskChan = s.deskChan ∧
    (updChan .host f s).store = s.store ∧ (updChan .host f s).intake = s.intake ∧
    (updChan .host f s).capture = s.capture ∧ (updChan .host f s).lens = s.lens ∧
    (updChan .host f s).focus = s.focus ∧ (updChan .host f s).dev = s.dev ∧ (updChan .host f s).cardA = s.cardA ∧
    (updChan .host f s).cardB = s.cardB ∧ (updChan .host f s).cardMode = s.cardMode ∧
    (updChan .host f s).tether = s.tether :=
  ⟨rfl, rfl, rfl, rfl, rfl, rfl, rfl, rfl, rfl, rfl, rfl, rfl, rfl, rfl⟩

@[simp] theorem updDesk_deskChan (f : Chan → Chan) (s : State) :
    (updChan .desk f s).deskChan = f s.deskChan := rfl

@[simp] theorem updDesk_others (f : Chan → Chan) (s : State) :
    (updChan .desk f s).pending = s.pending ∧ (updChan .desk f s).pins = s.pins ∧
    (updChan .desk f s).control = s.control ∧ (updChan .desk f s).hostChan = s.hostChan ∧
    (updChan .desk f s).store = s.store ∧ (updChan .desk f s).intake = s.intake ∧
    (updChan .desk f s).capture = s.capture ∧ (updChan .desk f s).lens = s.lens ∧
    (updChan .desk f s).focus = s.focus ∧ (updChan .desk f s).dev = s.dev ∧ (updChan .desk f s).cardA = s.cardA ∧
    (updChan .desk f s).cardB = s.cardB ∧ (updChan .desk f s).cardMode = s.cardMode ∧
    (updChan .desk f s).tether = s.tether :=
  ⟨rfl, rfl, rfl, rfl, rfl, rfl, rfl, rfl, rfl, rfl, rfl, rfl, rfl, rfl⟩

/-! Reads through a name. -/

@[simp] theorem chan_host (s : State) : chan s .host = s.hostChan := rfl

@[simp] theorem chan_desk (s : State) : chan s .desk = s.deskChan := rfl

@[simp] theorem card_a (s : State) : card s .a = s.cardA := rfl

@[simp] theorem card_b (s : State) : card s .b = s.cardB := rfl

@[simp] theorem chan_updChan (ch : Channel) (f : Chan → Chan) (s : State) : chan (updChan ch f s) ch = f (chan s ch) := by
  cases ch <;> rfl

@[simp] theorem card_updCard (k : CardSlot) (f : Card → Card) (s : State) : card (updCard k f s) k = f (card s k) := by
  cases k <;> rfl

/-- Changing one slot leaves the other. -/
theorem card_updCard_ne {k j : CardSlot} (h : j ≠ k) (f : Card → Card) (s : State) : card (updCard k f s) j = card s j := by
  cases k <;> cases j <;> first | rfl | exact absurd rfl h

/-- Changing one channel leaves the other. -/
theorem chan_updChan_ne {a b : Channel} (h : b ≠ a) (f : Chan → Chan) (s : State) : chan (updChan a f s) b = chan s b := by
  cases a <;> cases b <;> first | rfl | exact absurd rfl h

end Sys2Proof.Machine
end

