-- ==== Sys2Proof/Laws/Run.lean ====
section
/-! SUPPORT. How a queued cell comes to be executed: the row of each code in the permission table, and what remains of
`runCell` once a cell is in front and the checks before the owner's are passed. -/

namespace Sys2Proof.Machine

/-! ## The permission table -/

@[simp] theorem permissionOf_IDNT : permissionOf codeIDNT = some ⟨codeIDNT, true, true, true⟩ := by decide +kernel

@[simp] theorem permissionOf_RUNM : permissionOf codeRUNM = some ⟨codeRUNM, true, false, true⟩ := by decide +kernel

@[simp] theorem permissionOf_STBY : permissionOf codeSTBY = some ⟨codeSTBY, true, false, false⟩ := by decide +kernel

@[simp] theorem permissionOf_CONF : permissionOf codeCONF = some ⟨codeCONF, true, false, true⟩ := by decide +kernel

@[simp] theorem permissionOf_LOAD : permissionOf codeLOAD = some ⟨codeLOAD, true, false, true⟩ := by decide +kernel

@[simp] theorem permissionOf_PRST : permissionOf codePRST = some ⟨codePRST, true, false, false⟩ := by decide +kernel

@[simp] theorem permissionOf_TRST : permissionOf codeTRST = some ⟨codeTRST, true, false, false⟩ := by decide +kernel

@[simp] theorem permissionOf_ECHO : permissionOf codeECHO = some ⟨codeECHO, true, false, false⟩ := by decide +kernel

@[simp] theorem permissionOf_ARMC : permissionOf codeARMC = some ⟨codeARMC, true, false, false⟩ := by decide +kernel

@[simp] theorem permissionOf_DSRM : permissionOf codeDSRM = some ⟨codeDSRM, true, false, false⟩ := by decide +kernel

@[simp] theorem permissionOf_FIRE : permissionOf codeFIRE = some ⟨codeFIRE, true, false, false⟩ := by decide +kernel

@[simp] theorem permissionOf_CEAS : permissionOf codeCEAS = some ⟨codeCEAS, true, false, false⟩ := by decide +kernel

@[simp] theorem permissionOf_FTGT : permissionOf codeFTGT = some ⟨codeFTGT, true, false, false⟩ := by decide +kernel

@[simp] theorem permissionOf_SRCS : permissionOf codeSRCS = some ⟨codeSRCS, true, false, false⟩ := by decide +kernel

@[simp] theorem permissionOf_LPRB : permissionOf codeLPRB = some ⟨codeLPRB, true, false, false⟩ := by decide +kernel

@[simp] theorem permissionOf_SLST : permissionOf codeSLST = some ⟨codeSLST, true, true, true⟩ := by decide +kernel

@[simp] theorem permissionOf_SHOT : permissionOf codeSHOT = some ⟨codeSHOT, true, true, true⟩ := by decide +kernel

@[simp] theorem permissionOf_BLOG : permissionOf codeBLOG = some ⟨codeBLOG, true, true, true⟩ := by decide +kernel

@[simp] theorem permissionOf_HOLD : permissionOf codeHOLD = some ⟨codeHOLD, true, false, false⟩ := by decide +kernel

@[simp] theorem permissionOf_UNHD : permissionOf codeUNHD = some ⟨codeUNHD, true, false, false⟩ := by decide +kernel

@[simp] theorem permissionOf_WAIV : permissionOf codeWAIV = some ⟨codeWAIV, true, false, false⟩ := by decide +kernel

@[simp] theorem permissionOf_PRIO : permissionOf codePRIO = some ⟨codePRIO, true, false, false⟩ := by decide +kernel

@[simp] theorem permissionOf_DHLD : permissionOf codeDHLD = some ⟨codeDHLD, false, true, false⟩ := by decide +kernel

@[simp] theorem permissionOf_DUNH : permissionOf codeDUNH = some ⟨codeDUNH, false, true, false⟩ := by decide +kernel

@[simp] theorem permissionOf_PULL : permissionOf codePULL = some ⟨codePULL, false, true, false⟩ := by decide +kernel

@[simp] theorem permissionOf_RUSH : permissionOf codeRUSH = some ⟨codeRUSH, false, true, false⟩ := by decide +kernel

@[simp] theorem permissionOf_SKIP : permissionOf codeSKIP = some ⟨codeSKIP, false, true, false⟩ := by decide +kernel

@[simp] theorem permissionOf_MIRR : permissionOf codeMIRR = some ⟨codeMIRR, false, true, false⟩ := by decide +kernel

@[simp] theorem permissionOf_CAPN : permissionOf codeCAPN = some ⟨codeCAPN, true, true, false⟩ := by decide +kernel

@[simp] theorem permissionOf_XTNT : permissionOf codeXTNT = some ⟨codeXTNT, true, false, false⟩ := by decide +kernel

@[simp] theorem permissionOf_PLRD : permissionOf codePLRD = some ⟨codePLRD, true, false, false⟩ := by decide +kernel

@[simp] theorem permissionOf_CPWR : permissionOf codeCPWR = some ⟨codeCPWR, true, false, false⟩ := by decide +kernel

@[simp] theorem permissionOf_EVRD : permissionOf codeEVRD = some ⟨codeEVRD, true, true, true⟩ := by decide +kernel

@[simp] theorem permissionOf_EVMK : permissionOf codeEVMK = some ⟨codeEVMK, true, true, true⟩ := by decide +kernel

/-! ## Taking the cell in front -/

theorem taken_control (ch : Channel) (s : State) : (taken ch s).control = s.control := by cases ch <;> rfl

theorem taken_pins (ch : Channel) (s : State) : (taken ch s).pins = s.pins := by cases ch <;> rfl

theorem taken_tether (ch : Channel) (s : State) : (taken ch s).tether = s.tether := by cases ch <;> rfl

theorem taken_store (ch : Channel) (s : State) : (taken ch s).store = s.store := by cases ch <;> rfl

theorem taken_intake (ch : Channel) (s : State) : (taken ch s).intake = s.intake := by cases ch <;> rfl

theorem taken_capture (ch : Channel) (s : State) : (taken ch s).capture = s.capture := by cases ch <;> rfl

theorem taken_lens (ch : Channel) (s : State) : (taken ch s).lens = s.lens := by cases ch <;> rfl

theorem taken_focus (ch : Channel) (s : State) : (taken ch s).focus = s.focus := by cases ch <;> rfl

theorem taken_dev (ch : Channel) (s : State) : (taken ch s).dev = s.dev := by cases ch <;> rfl

theorem taken_card (ch : Channel) (k : CardSlot) (s : State) : card (taken ch s) k = card s k := by
  cases ch <;> cases k <;> rfl

theorem taken_cardMode (ch : Channel) (s : State) : (taken ch s).cardMode = s.cardMode := by cases ch <;> rfl

/-- The cell in front is executed where the command names it. -/
theorem runCell_front {ch : Channel} {c : Cell} {s : State} (h : (chan s ch).queue.head? = some c)
    {named : Cell → Bool} (hn : named c = true) (act : Cell → State → State) :
    runCell ch named act s = checked ch c act (taken ch s) := by
  unfold runCell
  cases hq : (chan s ch).queue with
  | nil => simp [hq] at h
  | cons a rest =>
    simp only [hq, List.head?_cons, Option.some.injEq] at h
    subst h
    simp only [hn, if_true]
    have e : updChan ch (fun k => { k with queue := rest }) s = taken ch s := by
      cases ch <;> (simp only [chan] at hq; simp [updChan, taken, hq])
    rw [e]

/-- An empty queue gives nothing to execute. -/
theorem runCell_empty {ch : Channel} {s : State} (h : (chan s ch).queue = []) (named : Cell → Bool)
    (act : Cell → State → State) : runCell ch named act s = s := by
  unfold runCell; rw [h]

/-- A cell that passes the checks before the owner's. -/
theorem checked_pass {ch : Channel} {c : Cell} {s : State} {p : Permission} (hp : permissionOf c.code = some p)
    (hc : permittedOn p ch = true) (hs : s.control.opState = .run ∨ p.standby = true) (act : Cell → State → State) :
    checked ch c act s = act c s := by
  unfold checked
  rw [hp]
  rcases hs with h | h <;> simp [hc, h]

/-- A code in front on a channel that may use it, in a state that accepts it. -/
theorem runCode_front {ch : Channel} {code : Word32} {c : Cell} {s : State} {p : Permission} (h : Front ch code c s)
    (hp : permissionOf code = some p) (hc : permittedOn p ch = true)
    (hs : s.control.opState = .run ∨ p.standby = true) (act : Cell → State → State) :
    runCode ch code act s = act c (taken ch s) := by
  unfold runCode
  rw [runCell_front h.1 (by simp [h.2])]
  exact checked_pass (by rw [h.2]; exact hp) hc (by rw [taken_control]; exact hs) act

/-- A setting's CONF cell in front on the host channel. -/
theorem runConf_front {n : Nat} {c : Cell} {s : State} (h : Front .host codeCONF c s) (hn : confNames n c = true)
    (read : State → List Nat) (set : List Nat → State → Option State) :
    runConf n read set .host s = .next (conf n read set .host c (taken .host s)) := by
  unfold runConf
  rw [runCell_front h.1 (by simp [h.2, hn])]
  rw [checked_pass (p := ⟨codeCONF, true, false, true⟩) (by rw [h.2]; exact permissionOf_CONF) rfl (.inr rfl)]

/-- A table's LOAD cell in front on the host channel. -/
theorem runLoad_front {n : Nat} {c : Cell} {s : State} (h : Front .host codeLOAD c s) (hn : loadNames n c = true) :
    runLoad n .host s = .next (load n .host c (taken .host s)) := by
  unfold runLoad
  rw [runCell_front h.1 (by simp [h.2, hn])]
  rw [checked_pass (p := ⟨codeLOAD, true, false, true⟩) (by rw [h.2]; exact permissionOf_LOAD) rfl (.inr rfl)]

/-! ## The row that executes a cell -/

/-- Every command code but CONF and LOAD has its row in `codeRows`. -/
theorem permissions_rows (ch : Channel) :
    permissions.all (fun p => p.code == codeCONF || p.code == codeLOAD || (codeRows ch).any fun q => q.1 == p.code) =
      true := by
  cases ch <;> decide +kernel

/-- A code that is neither CONF nor LOAD and has no row is no command code. -/
theorem permissionOf_none {ch : Channel} {code : Word32} (h1 : code ≠ codeCONF) (h2 : code ≠ codeLOAD)
    (h3 : (codeRows ch).find? (fun p => p.1 == code) = none) : permissionOf code = none := by
  unfold permissionOf
  rw [List.find?_eq_none]
  intro p hp hc
  have h := List.all_eq_true.1 (permissions_rows ch) p hp
  rw [beq_iff_eq] at hc
  rw [hc] at h
  simp only [Bool.or_eq_true, beq_iff_eq, h1, h2, false_or, List.any_eq_true] at h
  obtain ⟨q, hq, e⟩ := h
  rw [List.find?_eq_none] at h3
  exact h3 q hq (by simp [e])

/-- The row that executes a cell runs the channel's oldest cell and names this one. -/
theorem rowOf_runs (ch : Channel) (c : Cell) : ∃ (named : Cell → Bool) (act : Cell → State → State),
    named c = true ∧ ∀ s, exec (rowOf ch c) s = .next (runCell ch named act s) := by
  unfold rowOf
  split
  · rename_i hc
    rcases hf : c.fields with _ | ⟨k, rest⟩
    · exact ⟨_, _, by simp [hc, confNames, hf], fun s => rfl⟩
    · rcases k with _|_|_|_|_|_|_|_|_|_|_|_|_|_|_|_|_|k <;>
        exact ⟨_, _, by simp [hc, confNames, hf, settingCount], fun s => rfl⟩
  · split
    · rename_i hc
      rcases hf : c.fields with _ | ⟨k, rest⟩
      · exact ⟨_, _, by simp [hc, loadNames, hf], fun s => rfl⟩
      · rcases k with _|_|_|_|_|_|_|k <;> exact ⟨_, _, by simp [hc, loadNames, hf], fun s => rfl⟩
    · split
      · rename_i p hp
        have h1 : (p.1 == c.code) = true := List.find?_some (p := fun p : Word32 × Instr => p.1 == c.code) hp
        have h2 := List.mem_of_find?_eq_some hp
        simp only [codeRows, List.mem_cons, List.not_mem_nil, or_false] at h2
        rw [beq_iff_eq] at h1
        rcases h2 with h | h | h | h | h | h | h | h | h | h | h | h | h | h | h | h | h | h | h | h | h | h | h | h |
          h | h | h | h | h | h | h | h <;>
          (subst h; exact ⟨_, _, by rw [beq_iff_eq]; exact h1.symm, fun s => rfl⟩)
      · rename_i hne hl _ hp
        rw [beq_iff_eq] at hne hl
        exact ⟨_, _, by rw [permissionOf_none hne hl hp]; rfl, fun s => rfl⟩

/-! ## What an answer leaves -/

theorem chan_sendCells (ch ch' : Channel) (cells : List OutCell) (s : State) :
    chan (sendCells ch cells s) ch' = chan s ch' := by
  cases ch
  · simp only [sendCells]; split <;> (cases ch' <;> rfl)
  · simp only [sendCells]; split <;> (cases ch' <;> rfl)

theorem chan_answer (ch ch' : Channel) (c : Cell) (st : Status) (args : Payload) (s : State) :
    chan (answer ch c st args s) ch' = chan s ch' := chan_sendCells ch ch' _ s

end Sys2Proof.Machine
end

