-- ==== Sys2Proof/Laws/Unpack.lean ====
section
/-! SUPPORT. Reading RAW back gives what was packed (R40, R41, R115): samples, items, the items of a line, lines; and the
bounds of a shading gain (R114). -/

namespace Sys2Proof.Machine

/-! ## Samples -/

/-- Packed samples take no more than their bits. -/
theorem packSamples_lt (depth : Nat) : ∀ l : List Nat, (∀ v ∈ l, v < 2 ^ depth) →
    packSamples depth l < 2 ^ (l.length * depth)
  | [], _ => by simp [packSamples]
  | v :: rest, h => by
    have hv : v < 2 ^ depth := h v List.mem_cons_self
    have ih := packSamples_lt depth rest fun w hw => h w (List.mem_cons_of_mem _ hw)
    rw [packSamples, List.length_cons, Nat.add_mul, Nat.one_mul, Nat.pow_add, Nat.mul_comm (2 ^ (_ * depth))]
    have : 2 ^ depth * (packSamples depth rest + 1) ≤ 2 ^ depth * 2 ^ (rest.length * depth) :=
      Nat.mul_le_mul_left _ ih
    rw [Nat.mul_add, Nat.mul_one] at this
    omega

/-- Unpacking gives the samples packed. -/
theorem unpackSamples_pack (depth : Nat) : ∀ l : List Nat, (∀ v ∈ l, v < 2 ^ depth) →
    unpackSamples depth l.length (packSamples depth l) = l
  | [], _ => rfl
  | v :: rest, h => by
    have hv : v < 2 ^ depth := h v List.mem_cons_self
    have ih := unpackSamples_pack depth rest fun w hw => h w (List.mem_cons_of_mem _ hw)
    rw [packSamples, List.length_cons, unpackSamples, Nat.add_mul_mod_self_left, Nat.mod_eq_of_lt hv,
      Nat.add_mul_div_left _ _ (Nat.two_pow_pos depth), Nat.div_eq_of_lt hv, Nat.zero_add, ih]

/-! ## Items -/

/-- The samples of a token. -/
def tokenSamples : PackToken → List Nat
  | .literal v => [v]
  | .run v c => List.replicate c v

/-- The samples of an item. -/
def itemSamples : PackItem → List Nat
  | .group samples => samples
  | .run v c => List.replicate c v

/-- An item the packer writes at a sample depth: a group of 1 to 64 samples, or a run of 1 to 130. -/
def ItemFits (depth : Nat) (i : PackItem) : Prop :=
  1 ≤ (itemSamples i).length ∧ (itemSamples i).length ≤ 130 ∧ ∀ v ∈ itemSamples i, v < 2 ^ depth

/-- An item at the front of the stream is read. -/
theorem readItem_itemBytes {depth : Nat} (hd : depth ≤ 16) {i : PackItem} (h : ItemFits depth i) (rest : List Byte) :
    readItem depth (itemBytes depth i ++ rest) = some (itemSamples i, rest) := by
  obtain ⟨h1, h2, hv⟩ := h
  cases i with
  | group l =>
    simp only [itemSamples] at h1 h2 hv ⊢
    have hl : (BitVec.ofNat 8 l.length).toNat = l.length := by
      rw [BitVec.toNat_ofNat]; exact Nat.mod_eq_of_lt (by omega)
    have hlt : packSamples depth l < 256 ^ ((l.length * depth + 7) / 8) := by
      refine Nat.lt_of_lt_of_le (packSamples_lt depth l hv) ?_
      rw [show (256 : Nat) = 2 ^ 8 from rfl, ← Nat.pow_mul]
      exact Nat.pow_le_pow_right (by decide) (by omega)
    simp only [itemBytes, le, List.cons_append, List.nil_append, readItem, hl]
    simp only [show (BitVec.ofNat 8 1).toNat = 1 from rfl, takeLe_append (length_le _ _), readLe_le _ _ hlt,
      Option.map_some, unpackSamples_pack depth l hv]
  | run v c =>
    simp only [itemSamples, List.length_replicate] at h1 h2
    have hvd : v < 2 ^ depth := hv v (by simp [itemSamples]; omega)
    have hv16 : v < 256 ^ 2 := Nat.lt_of_lt_of_le hvd (by
      rw [show (256 : Nat) ^ 2 = 2 ^ 16 from rfl]; exact Nat.pow_le_pow_right (by decide) hd)
    have hc : (BitVec.ofNat 8 c).toNat = c := by
      rw [BitVec.toNat_ofNat]; exact Nat.mod_eq_of_lt (by omega)
    have e : itemBytes depth (.run v c) ++ rest = BitVec.ofNat 8 2 :: BitVec.ofNat 8 c :: (le 2 v ++ rest) := by
      simp [itemBytes, le]
    rw [e, readItem]
    simp only [show (BitVec.ofNat 8 2).toNat = 2 from rfl, takeLe_append (length_le _ _), readLe_le _ _ hv16,
      Option.map_some, hc, itemSamples]

/-- The items of a line are read until its samples are complete. -/
theorem readItems_itemBytes {depth : Nat} (hd : depth ≤ 16) (rest : List Byte) : ∀ (items : List PackItem) (fuel : Nat),
    (∀ i ∈ items, ItemFits depth i) → items.length ≤ fuel →
    readItems depth fuel (items.map itemSamples).flatten.length ((items.map (itemBytes depth)).flatten ++ rest) =
      some ((items.map itemSamples).flatten, rest)
  | [], fuel, _, _ => by cases fuel <;> simp [readItems]
  | i :: more, 0, _, hf => by simp at hf
  | i :: more, fuel + 1, h, hf => by
    have hi := h i List.mem_cons_self
    obtain ⟨n, hn⟩ : ∃ n, (itemSamples i).length = n + 1 := ⟨(itemSamples i).length - 1, by have := hi.1; omega⟩
    have ih := readItems_itemBytes hd rest more fuel (fun j hj => h j (List.mem_cons_of_mem _ hj))
      (by simpa using hf)
    have hlen : (((i :: more).map itemSamples).flatten).length =
        (n + (more.map itemSamples).flatten.length) + 1 := by
      rw [List.map_cons, List.flatten_cons, List.length_append, hn]; omega
    rw [hlen, List.map_cons, List.flatten_cons, List.append_assoc, readItems, readItem_itemBytes hd hi]
    simp only
    rw [show n + (more.map itemSamples).flatten.length + 1 - (itemSamples i).length =
        (more.map itemSamples).flatten.length by omega, ih]
    simp

/-! ## The items of a line -/

/-- Items spell the tokens they gather. -/
theorem groupTokens_spell : ∀ (tokens : List PackToken) (current : List Nat),
    ((groupTokens tokens current).map itemSamples).flatten = current ++ (tokens.map tokenSamples).flatten
  | [], current => by cases current <;> simp [groupTokens, closeGroup, itemSamples]
  | .literal v :: rest, current => by
    rw [groupTokens]
    split
    · rw [groupTokens_spell rest]; simp [tokenSamples]
    · rw [List.map_cons, List.flatten_cons, groupTokens_spell rest]; simp [tokenSamples, itemSamples]
  | .run v c :: rest, current => by
    rw [groupTokens, List.map_append, List.flatten_append, List.map_cons, List.flatten_cons, groupTokens_spell rest]
    cases current <;> simp [closeGroup, tokenSamples, itemSamples]

/-- A token of a line at a sample depth. -/
def TokenFits (depth : Nat) (t : PackToken) : Prop :=
  1 ≤ (tokenSamples t).length ∧ (tokenSamples t).length ≤ 130 ∧ ∀ v ∈ tokenSamples t, v < 2 ^ depth

/-- The items of tokens that fit, behind literals that fit, fit. -/
theorem groupTokens_fits (depth : Nat) : ∀ (tokens : List PackToken) (current : List Nat),
    (∀ t ∈ tokens, TokenFits depth t) → current.length ≤ 63 → (∀ v ∈ current, v < 2 ^ depth) →
    ∀ i ∈ groupTokens tokens current, ItemFits depth i
  | [], current, _, hc, hv, i, hi => by
    cases current with
    | nil => simp [groupTokens, closeGroup] at hi
    | cons v rest =>
      simp only [groupTokens, closeGroup, List.mem_singleton] at hi
      subst hi
      exact ⟨by simp [itemSamples], by simp only [itemSamples, List.length_cons] at hc ⊢; omega, hv⟩
  | .literal v :: rest, current, ht, hc, hv, i, hi => by
    have hv' : ∀ w ∈ current ++ [v], w < 2 ^ depth := by
      intro w hw
      rcases List.mem_append.1 hw with hw | hw
      · exact hv w hw
      · rw [List.mem_singleton.1 hw]
        exact (ht _ List.mem_cons_self).2.2 v (by simp [tokenSamples])
    have hr : ∀ t ∈ rest, TokenFits depth t := fun t h => ht t (List.mem_cons_of_mem _ h)
    rw [groupTokens] at hi
    split at hi
    · exact groupTokens_fits depth rest _ hr (by simp; omega) hv' i hi
    · rcases List.mem_cons.1 hi with rfl | hi
      · exact ⟨by simp [itemSamples], by simp only [itemSamples, List.length_append, List.length_singleton]; omega, hv'⟩
      · exact groupTokens_fits depth rest [] hr (by simp) (by simp) i hi
  | .run v c :: rest, current, ht, hc, hv, i, hi => by
    have hr : ∀ t ∈ rest, TokenFits depth t := fun t h => ht t (List.mem_cons_of_mem _ h)
    rw [groupTokens] at hi
    rcases List.mem_append.1 hi with hi | hi
    · cases current with
      | nil => simp [closeGroup] at hi
      | cons w more =>
        simp only [closeGroup, List.mem_singleton] at hi
        subst hi
        exact ⟨by simp [itemSamples], by simp only [itemSamples, List.length_cons] at hc ⊢; omega, hv⟩
    · rcases List.mem_cons.1 hi with rfl | hi
      · exact ht _ List.mem_cons_self
      · exact groupTokens_fits depth rest [] hr (by simp) (by simp) i hi

/-- The tokens of a maximal run spell it. -/
theorem runTokens_spell (v c : Nat) : ((runTokens v c).map tokenSamples).flatten = List.replicate c v := by
  have lits : ∀ n, ((List.replicate n (PackToken.literal v)).map tokenSamples).flatten = List.replicate n v := by
    intro n
    induction n with
    | zero => rfl
    | succ n ih => simp only [List.replicate_succ, List.map_cons, List.flatten_cons, ih, tokenSamples,
        List.cons_append, List.nil_append]
  have runs : ∀ n, ((List.replicate n (PackToken.run v 130)).map tokenSamples).flatten = List.replicate (130 * n) v := by
    intro n
    induction n with
    | zero => rfl
    | succ n ih =>
      rw [List.replicate_succ, List.map_cons, List.flatten_cons, ih, tokenSamples, List.replicate_append_replicate]
      congr 1; omega
  unfold runTokens
  split
  · exact lits c
  · rw [List.map_append, List.flatten_append, runs]
    split
    · rw [lits, List.replicate_append_replicate]; congr 1; omega
    · simp only [List.map_cons, List.map_nil, List.flatten_cons, List.flatten_nil, List.append_nil, tokenSamples,
        List.replicate_append_replicate]
      congr 1; omega

/-- The tokens of a maximal run of a sample that fits fit. -/
theorem runTokens_fits {depth v c : Nat} (hv : v < 2 ^ depth) : ∀ t ∈ runTokens v c, TokenFits depth t := by
  have lit : TokenFits depth (.literal v) := ⟨by simp [tokenSamples], by simp [tokenSamples], by simpa [tokenSamples]⟩
  have run : ∀ n, 1 ≤ n → n ≤ 130 → TokenFits depth (.run v n) := fun n h1 h2 =>
    ⟨by simpa [tokenSamples], by simpa [tokenSamples], fun w hw => by
      simp only [tokenSamples] at hw; rw [List.eq_of_mem_replicate hw]; exact hv⟩
  intro t ht
  unfold runTokens at ht
  split at ht
  · rw [List.eq_of_mem_replicate ht]; exact lit
  · rcases List.mem_append.1 ht with ht | ht
    · rw [List.eq_of_mem_replicate ht]; exact run 130 (by decide) (by decide)
    · split at ht
      · rw [List.eq_of_mem_replicate ht]; exact lit
      · rw [List.mem_singleton.1 ht]; exact run _ (by omega) (by omega)

/-- The samples of the maximal runs are the line's. -/
theorem mem_sampleRuns {l : List Nat} {p : Nat × Nat} (h : p ∈ sampleRuns l) : 1 ≤ p.2 ∧ p.1 ∈ l := by
  have pos : ∀ l : List Nat, ∀ q ∈ sampleRuns l, 1 ≤ q.2 := by
    intro l
    induction l with
    | nil => intro q hq; simp [sampleRuns] at hq
    | cons v rest ih =>
      intro q hq
      unfold sampleRuns at hq
      split at hq
      · simp [List.mem_singleton.1 hq]
      · rename_i w c more e
        have ih' := e ▸ ih
        split at hq
        · rcases List.mem_cons.1 hq with rfl | hq
          · simp
          · exact ih' q (List.mem_cons_of_mem _ hq)
        · rcases List.mem_cons.1 hq with rfl | hq
          · simp
          · exact ih' q hq
  have h1 := pos l p h
  refine ⟨h1, ?_⟩
  have hs := sampleRuns_spell l
  rw [← hs]
  exact List.mem_flatten.2 ⟨List.replicate p.2 p.1, List.mem_map.2 ⟨p, h, rfl⟩, List.mem_replicate.2 ⟨by omega, rfl⟩⟩

/-- The tokens of a line spell it. -/
theorem lineTokens_spell (coding : Bool) (l : List Nat) : ((lineTokens coding l).map tokenSamples).flatten = l := by
  cases coding with
  | false =>
    simp only [lineTokens, Bool.false_eq_true, if_false]
    induction l with
    | nil => rfl
    | cons v rest ih => simp only [List.map_cons, List.flatten_cons, ih, tokenSamples, List.cons_append, List.nil_append]
  | true =>
    simp only [lineTokens, if_true]
    have key : ∀ runs : List (Nat × Nat), (((runs.map fun p => runTokens p.1 p.2).flatten).map tokenSamples).flatten =
        (runs.map fun p => List.replicate p.2 p.1).flatten := by
      intro runs
      induction runs with
      | nil => rfl
      | cons p more ih =>
        simp only [List.map_cons, List.flatten_cons, List.map_append, List.flatten_append, ih, runTokens_spell]
    rw [key, sampleRuns_spell]

/-- The tokens of a line whose samples fit fit. -/
theorem lineTokens_fits {depth : Nat} {l : List Nat} (coding : Bool) (h : ∀ v ∈ l, v < 2 ^ depth) :
    ∀ t ∈ lineTokens coding l, TokenFits depth t := by
  intro t ht
  cases coding with
  | false =>
    simp only [lineTokens, Bool.false_eq_true, if_false, List.mem_map] at ht
    obtain ⟨v, hv, rfl⟩ := ht
    exact ⟨by simp [tokenSamples], by simp [tokenSamples], by simpa [tokenSamples] using h v hv⟩
  | true =>
    simp only [lineTokens, if_true, List.mem_flatten, List.mem_map] at ht
    obtain ⟨ts, ⟨p, hp, rfl⟩, ht⟩ := ht
    exact runTokens_fits (h _ (mem_sampleRuns hp).2) t ht

/-- A line's items take no more than one for each sample. -/
theorem length_le_flatten {α β : Type} (f : α → List β) : ∀ l : List α, (∀ a ∈ l, 1 ≤ (f a).length) →
    l.length ≤ ((l.map f).flatten).length
  | [], _ => by simp
  | a :: rest, h => by
    have h1 := h a List.mem_cons_self
    have ih := length_le_flatten f rest fun b hb => h b (List.mem_cons_of_mem _ hb)
    rw [List.map_cons, List.flatten_cons, List.length_append, List.length_cons]
    omega

/-! ## Lines -/

/-- A packed line at the front of the stream is read. -/
theorem readLine_lineBytes {g : Geometry} (hd : g.depth ≤ 16) {number : Nat} (hn : number < 65536) (isFill : Bool)
    {l : List Nat} (hl : l.length = g.samples) (hv : ∀ v ∈ l, v < 2 ^ g.depth) (rest : List Byte) :
    readLine g.depth g.samples (lineBytes g number isFill l ++ rest) = some ((number, l), rest) := by
  have hs := groupTokens_spell (lineTokens g.runCoding l) []
  rw [List.nil_append, lineTokens_spell] at hs
  have hf := groupTokens_fits g.depth (lineTokens g.runCoding l) [] (lineTokens_fits _ hv) (by simp) (by simp)
  have hlen : (groupTokens (lineTokens g.runCoding l) []).length ≤ g.samples := by
    have := length_le_flatten itemSamples _ fun i hi => (hf i hi).1
    rwa [hs, hl] at this
  have hr := readItems_itemBytes hd rest _ g.samples hf hlen
  rw [hs, hl] at hr
  unfold readLine lineBytes
  rw [List.append_assoc, List.append_assoc, List.append_assoc, takeLe_append (length_le _ _), readLe_le 2 number hn]
  simp only [le, zeros, List.replicate, List.cons_append, List.nil_append, List.drop_succ_cons, List.drop_zero, hr,
    Option.map_some]

/-- R40, R115: the lines read back are the lines packed. -/
theorem readLines_lineBytes {g : Geometry} (hd : g.depth ≤ 16) : ∀ (lines : List (Nat × Bool × List Nat)) (count : Nat),
    (∀ l ∈ lines, l.1 < 65536 ∧ l.2.2.length = g.samples ∧ ∀ v ∈ l.2.2, v < 2 ^ g.depth) → lines.length ≤ count →
    readLines g.depth g.samples count (lines.map fun l => lineBytes g l.1 l.2.1 l.2.2).flatten =
      lines.map fun l => (l.1, l.2.2)
  | [], 0, _, _ => rfl
  | [], _ + 1, _, _ => rfl
  | _ :: _, 0, _, hc => by simp at hc
  | l :: more, count + 1, h, hc => by
    obtain ⟨hn, hl, hv⟩ := h l List.mem_cons_self
    rw [List.map_cons, List.flatten_cons, readLines, readLine_lineBytes hd hn l.2.1 hl hv]
    simp only [List.map_cons]
    rw [readLines_lineBytes hd more count (fun m hm => h m (List.mem_cons_of_mem _ hm)) (by simpa using hc)]

/-! ## Shading gains -/

/-- The least of a list and a number is the number or in the list, and so is the greatest. -/
theorem foldl_between (low high : Nat) : ∀ (l : List Nat) (a b : Nat), low ≤ a → b ≤ high → a ≤ b →
    (∀ v ∈ l, low ≤ v ∧ v ≤ high) →
    low ≤ l.foldl min a ∧ l.foldl min a ≤ l.foldl max b ∧ l.foldl max b ≤ high
  | [], _, _, h1, h2, h3, _ => ⟨h1, h3, h2⟩
  | v :: rest, a, b, h1, h2, h3, h => by
    have hv := h v List.mem_cons_self
    exact foldl_between low high rest (min a v) (max b v) (by omega) (by omega) (by omega)
      fun w hw => h w (List.mem_cons_of_mem _ hw)

/-- R114: a gain lies between bounds that the gains of the nearest grid points keep. -/
theorem gainAt_between {grid : List Nat} {lines samples line column low high : Nat}
    (h : ∀ v ∈ nearGains grid (gridPlace gridRows lines line) (gridPlace gridColumns samples column),
      low ≤ v ∧ v ≤ high) :
    low ≤ gainAt grid lines samples line column ∧ gainAt grid lines samples line column ≤ high := by
  simp only [gainAt]
  generalize hn : nearGains grid (gridPlace gridRows lines line) (gridPlace gridColumns samples column) = near at h ⊢
  have hne : near ≠ [] := by
    rw [← hn]
    unfold nearGains gridNear
    split <;> split <;> simp
  obtain ⟨v, rest, rfl⟩ := List.exists_cons_of_ne_nil hne
  have hv := h v List.mem_cons_self
  obtain ⟨h1, h2, h3⟩ := foldl_between low high (v :: rest) v v hv.1 hv.2 (Nat.le_refl v) h
  simp only [List.headD_cons]
  generalize hk : Config.gainBetween _ _ _ _ _ = k
  have := Nat.mod_lt k (show 0 < (v :: rest).foldl max v - (v :: rest).foldl min v + 1 by omega)
  omega

end Sys2Proof.Machine
end

