-- ==== Sys2Proof/Tests/Slice0.lean ====
section
/-! SUPPORT. Tests: ill-formed commands that `WellFormed` refuses, one step of each family on small states, and for each
statement of Certificates/Slice0/Obligations.lean states and operands that meet its hypotheses. -/

namespace Sys2Proof.Tests

set_option Elab.async false

open Sys2Proof.Machine

/-! ## Small states -/

/-- An argument in its field. -/
def argumentBytes : ArgField → Nat → List Byte
  | .number w, v => le w v
  | .station, v => be 6 v

/-- A command cell with these arguments, laid out as its code lays them out. -/
def cell (code : Word32) (fields : List Nat) (data : List Byte := []) : Cell :=
  let l := argLayout code (fields.headD 0)
  let used :=
    ((l.fields.zip fields).map fun p => argumentBytes p.1 p.2).flatten ++
      ((fields.drop l.fields.length).map (le (l.more.getD 1))).flatten ++ data
  { kind := 1, tag := 7, code, status := 0, argLen := BitVec.ofNat 7 used.length, continued := false,
    args := (used ++ List.replicate 48 0).take 48 }

/-- The state with one cell queued on a channel. -/
def put (ch : Channel) (c : Cell) (s : State) : State := updChan ch (fun k => { k with queue := [c] }) s

def geometry : Geometry :=
  { laneCount := 2, lines := 2, samples := 64, depth := 12, fill := 5, runCoding := true, phaseLines := [1] }

def profile : Profile :=
  { interval := 1, limit := 1, depth := 1, reserve := 2, cls := 0, recipe := 0, focusMode := .single,
    releaseMode := .focusPriority }

def allRends : RendSet := { raw := true, dev := false, prv := false }

def entry : ClassEntry := { cardA := allRends, cardB := allRends, desk := allRends, policy := .noDesk, lifetime := 240 }

/-- RUN with the three tables, eight free pages and the profile in slot 7. -/
def ready : State :=
  { State.reset with
    control := { Control.reset with opState := .run }
    store := { Store.reset with free := [64, 65, 66, 67, 68, 69, 70, 71], routing := some [entry, entry, entry, entry] }
    intake := { Intake.reset with geometry := some geometry }
    capture := { Capture.reset with profiles := [some profile, none, none, none, none, none, none, some profile] } }

/-- The same, armed with profile slot 0. -/
def armed (st : CaptureState) : State :=
  { ready with capture := { ready.capture with state := st, armed := some 0 } }

def rawRend (n : Nat) : Rend := { state := .ready, pages := [64], length := n, readers := 0, content := .raw [1, 2, 3] }

def duty (d : Dest) (r : Rendition) (st : DutyState) : Duty :=
  { dest := d, rend := r, state := st, reason := none, created := 0, expiry := none }

/-- A shot with RAW READY and the duties given. -/
def shotWith (duties : List Duty) : Shot :=
  { newShot State.reset 0 0 profile false with
    number := some 1, state := .opened, raw := rawRend 3, duties, reservation := [] }

/-- `ready` with one shot. -/
def holding (x : Shot) : State := { ready with store := { ready.store with shots := [x] } }

def owedDesk : Shot := shotWith [duty .desk .raw .owed]

/-- A tether engine in BOUND with desk address 1. -/
def boundTether : Tether :=
  { Tether.reset with
    link := .bound, desk := some 1, mode := some .windowed, window := 16, result := .bound .windowed,
    silenceTimer := some 1 }

def bound (s : State) : State :=
  { s with tether := boundTether, pins := { s.pins with etherUp := true } }

def lensIn (l : Lens) (s : State) : State := { s with lens := l, pins := { s.pins with lensPresent := true } }

def contract : Contract := { cls := 1, first := 10, last := 20 }

/-- A lens in DRIVING at position 12 towards 18. -/
def driving : Lens :=
  { Lens.reset with
    state := .driving, sensed := some 3, profileId := some 3, contract := some contract, inFlight := some 18,
    position := some 12, driveTimer := some 1 }

def cardWith (c : Card) (s : State) : State := { s with cardA := c }

/-- A card of 100 blocks in READY with two extents. -/
def readyCard : Card :=
  { Card.reset with state := .ready, capacity := some 100, extents := [{ start := 0, count := 1 }, { start := 9, count := 2 }] }

def write : ActiveWrite :=
  { slot := 0, number := 1, rend := .raw, plan := [{ start := 0, count := 1 }, { start := 9, count := 1 }], header := [9],
    length := 70000, attempt := 1, done := 0, timer := some 1 }

def writingCard : Card := { readyCard with state := .writing, write := some write }

def transfer : Transfer :=
  { slot := 0, number := 1, rend := .raw, header := [9], summary := [], chain := [], length := 3000, phase := .sending,
    announceReady := false, acked := 0, next := 1408, highest := 1408, expiries := 0, timer := some 1 }

def envelope : Envelope := { dst := 0x02005A000640, src := 1, frameType := 0x9B12, padding := [] }

/-- The status of the last cell made ready on the host channel. -/
def hostStatus (o : Host.Outcome State Fault Refusal) : Option Status :=
  match o with
  | .next t => t.control.ready.getLast?.map fun c => c.status
  | _ => none

/-- A part of the next state. -/
def after {α : Type} (f : State → α) (o : Host.Outcome State Fault Refusal) : Option α :=
  match o with
  | .next t => some (f t)
  | _ => none

/-! ## WellFormed refuses -/

theorem test_illformed_cell : ¬ WellFormed (.commandCell .host { cell codeIDNT [] with args := List.replicate 49 0 }) := by
  decide
theorem test_illformed_control : ¬ WellFormed (.control envelope { cell codeIDNT [] with args := [] }) := by decide
theorem test_illformed_loadUnit : ¬ WellFormed (.loadUnit []) := by decide
theorem test_illformed_injectUnit : ¬ WellFormed (.injectUnit []) := by decide
theorem test_illformed_injectUnit_long (p : List Byte) (h : p.length = 65537) : ¬ WellFormed (.injectUnit p) := by
  simp [WellFormed, Instr.wellFormed, bulkLength, h]
theorem test_illformed_line (samples : List Word16) (h : samples.length = 12289) :
    ¬ WellFormed (.line 0 true 0 .image samples) := by simp [WellFormed, Instr.wellFormed, h]
theorem test_illformed_embedded : ¬ WellFormed (.embedded true []) := by decide
theorem test_illformed_dutyExpiry : ¬ WellFormed (.dutyExpiry 0 .raw) := by decide
theorem test_illformed_malformedFrame : ¬ WellFormed (.malformedTetherFrame envelope [9]) := by decide
theorem test_illformed_malformedFrame_ack : WellFormed (.malformedTetherFrame envelope [5, 0, 0, 0, 0, 3, 0, 0, 0, 0]) := by
  decide
/-- An ANNOUNCE and a BLOCK of rendition 3, an ANSWER of result 2 and one of mode 4 are malformed, not unexpected. -/
theorem test_illformed_unlisted_codes :
    ([[3, 1, 0, 0, 0, 3, 0, 0, 0, 0, 0, 0, 0, 0], [4, 1, 0, 0, 0, 3, 0, 0, 0, 0, 0, 0], [2, 2, 0, 0], [2, 0, 4, 1]] :
      List (List Byte)).all (fun b => tetherMalformed b && !tetherUnexpected b) = true := by decide
theorem test_illformed_unexpectedFrame : ¬ WellFormed (.unexpectedTetherFrame envelope [2, 0, 0]) := by decide
theorem test_wellformed_unexpectedFrame : WellFormed (.unexpectedTetherFrame envelope [2, 0, 0, 0]) := by decide

/-! ## The channel unit (09) -/

def idntCell : Cell := cell codeIDNT []
def full8 : List Cell := List.replicate 8 idntCell

theorem hyps_StepRunsFrontCommand :
    ({ State.reset with pending := [.malformedHostUnit] } : State).pending = .malformedHostUnit :: [] := rfl

theorem hyps_IdleStepPassesOneMicrosecond :
    (bound (put .host idntCell State.reset)).pending = [] ∧
      (chan (put .host idntCell State.reset) .host).queue.head? = some idntCell ∧
      (bound State.reset).tether.silenceTimer = some 1 ∧
      (lensIn { driving with answerTimer := some 1 } State.reset).lens.answerTimer = some 1 := by decide +kernel

theorem hyps_PowerOnAndPartResetReturnEveryBlock :
    FrontInRun .host codePRST (cell codePRST []) (put .host (cell codePRST []) ready) ∧
      ({ ready.control with resetAwaited := true } : Control).resetAwaited = true ∧
      State.reset.control.resetAwaited = false := by unfold FrontInRun Front; decide +kernel

/-- A cell with 48 and with 49 argument bytes, a queue of 7 and of 8 cells, kinds 0 to 4, and both channels. -/
theorem hyps_ArrivingCellIsQueuedAnsweredOrCounted :
    canNotify State.reset .host = true ∧ canNotify (bound State.reset) .desk = true ∧
      State.reset.pins.hostUp = true ∧ ({ idntCell with argLen := 48 } : Cell).argLen.toNat ≤ 48 ∧
      48 < ({ idntCell with argLen := 49 } : Cell).argLen.toNat ∧ idntCell.kind = 1 ∧
      (List.replicate 7 idntCell).length < 8 ∧ 8 ≤ full8.length ∧
      ({ idntCell with kind := 2 } : Cell).kind = 2 ∧ ({ idntCell with kind := 3 } : Cell).kind = 3 ∧
      ({ idntCell with kind := 4 } : Cell).kind ≠ 1 ∧ ({ idntCell with kind := 0 } : Cell).kind ≠ 1 := by decide +kernel

theorem hyps_AnswersRunOnAcrossCells :
    (bound State.reset).tether.link = .bound ∧ (bound State.reset).tether.desk = some 1 ∧
      State.reset.tether.link ≠ .bound ∧
      ((answerCells 7 codeIDNT .done (.bytes (List.replicate 49 0))).map fun c => c.args.length) = [48, 1] := by
  decide +kernel

/-- An empty answer is one cell. -/
theorem test_bare_cell :
    (answerCells 7 codeIDNT .done (.bytes [])).map cellBytes =
      [[2, 7, 0x49, 0x44, 0x4E, 0x54, 0, 0] ++ List.replicate 48 0] := by decide +kernel

theorem test_identity_runs_on :
    (answerCells 7 codeIDNT .done (.identity (identity .host State.reset))).map (fun c => c.continued) =
      [true, false] := by decide +kernel

def watching (c : Chan) : State := { State.reset with hostChan := c }
def spaceMask : Chan := { Chan.reset with mask := 1 }

theorem hyps_EventsLatchAndNotify :
    Event.deskRequest ≠ .hostlinkUp ∧ Event.spaceLow ≠ .deskRequest ∧ latchBit .spaceLow < 56 ∧ latchBit (.placementReady .b) < 56 ∧ unmasked Chan.reset .spaceLow = false ∧
      unmasked spaceMask .spaceLow = true ∧ latched spaceMask .spaceLow = false ∧ spaceMask.notice = false ∧
      canNotify (watching spaceMask) .host = true ∧ latched { spaceMask with latches := 1 } .spaceLow = true ∧
      ({ spaceMask with notice := true } : Chan).notice = true ∧ Channel.desk ≠ .host := by decide +kernel

theorem hyps_EventsLatchAndNotify_again :
    (chan (watching Chan.reset) .host).latches = 0 ∧ ({ spaceMask with latches := 1 } : Chan).latches ≠ 0 ∧
      (chan (watching { spaceMask with latches := 1 }) .host).notice = false ∧
      canNotify (watching { spaceMask with latches := 1 }) .host = true ∧ canNotify State.reset .desk = false := by
  decide +kernel

theorem hyps_EvrdReadsAndClearsLatches :
    Front .host codeEVRD (cell codeEVRD []) (put .host (cell codeEVRD []) (watching spaceMask)) ∧
      (chan (watching spaceMask) .host).latches = 0 ∧ latchBit .hostlinkUp < 56 ∧
      unmasked (chan (watching spaceMask) .host) .spaceLow = true := by unfold Front; decide +kernel

/-- The largest mask of each channel, and the first beyond it. -/
theorem hyps_EvmkReplacesTheMask :
    Front .host codeEVMK (cell codeEVMK []) (put .host (cell codeEVMK []) ready) ∧
      (cell codeEVMK []).args.length = 48 ∧ (cell codeEVMK []).argLen = 0 ∧ (cell codeEVMK [1]).argLen = 4 ∧
      Front .desk codeEVMK (cell codeEVMK [2 ^ 25]) (put .desk (cell codeEVMK [2 ^ 25]) ready) ∧
      (cell codeEVMK [2 ^ 25]).fields = [2 ^ 25] ∧ 2 ^ 25 ≤ 2 ^ 25 ∧ 2 ^ 25 - 1 < 2 ^ 25 ∧ 2 ^ 27 - 1 < 2 ^ 27 := by
  unfold Front; decide +kernel

theorem test_evmk_desk_beyond :
    after (fun t => t.deskChan.mask) (exec (.evmk .desk) (put .desk (cell codeEVMK [2 ^ 25]) ready)) = some 0 := by
  decide +kernel

theorem test_evmk_desk_last :
    after (fun t => t.deskChan.mask) (exec (.evmk .desk) (put .desk (cell codeEVMK [2 ^ 25 - 1]) ready)) =
      some 0x1FFFFFF := by decide +kernel

/-- An unknown code, a code of the other channel, and one that STANDBY does not accept. -/
theorem hyps_ChannelChecksRefuseInOrder :
    (chan (put .desk (cell 0 []) State.reset) .desk).queue.head? = some (cell 0 []) ∧ permissionOf 0 = none ∧
      permissionOf codePRIO = some ⟨codePRIO, true, false, false⟩ ∧
      permittedOn ⟨codePRIO, true, false, false⟩ .desk = false ∧
      permittedOn ⟨codePRIO, true, false, false⟩ .host = true ∧ State.reset.control.opState = .standby := by
  decide +kernel

theorem test_unknown_code :
    hostStatus (exec (.unknownCode .host) (put .host (cell 0 []) State.reset)) = some .unknown := by decide +kernel

theorem test_denied : hostStatus (exec (.pull .host) (put .host (cell codePULL [1, 0]) ready)) = some .denied := by
  decide +kernel

theorem test_standby_refuses : hostStatus (exec (.fire .host) (put .host (cell codeFIRE []) State.reset)) = some .state := by
  decide +kernel

theorem hyps_IdentityAndOperatingState :
    Front .desk codeIDNT idntCell (put .desk idntCell State.reset) ∧
      Front .host codeRUNM (cell codeRUNM []) (put .host (cell codeRUNM []) ready) ∧ ready.control.opState = .run ∧
      State.reset.control.opState = .standby ∧ State.reset.intake.geometry = none ∧ ready.intake.geometry ≠ none ∧
      ready.store.routing ≠ none ∧ some profile ∈ ready.capture.profiles ∧
      FrontInRun .host codeSTBY (cell codeSTBY []) (put .host (cell codeSTBY []) ready) ∧
      (armed .armed).capture.state ≠ .disarmed ∧ ready.capture.state = .disarmed := by
  unfold FrontInRun Front; decide +kernel

theorem test_runm_without_tables :
    hostStatus (exec (.runm .host) (put .host (cell codeRUNM []) State.reset)) = some .state := by decide +kernel

theorem test_stby : after (fun t => (t.control.opState, t.capture.state))
    (exec (.stby .host) (put .host (cell codeSTBY []) (armed .awaitingFocus))) = some (.standby, .disarmed) := by
  decide +kernel

/-- RUN with the answer to a PRST not yet gone. -/
def resetting : State := { ready with control := { ready.control with resetAwaited := true } }

theorem hyps_HostLinkLossAndReturn :
    State.reset.pins.hostUp = true ∧ State.reset.control.resetAwaited = false ∧
      ({ Pins.atReset with hostUp := false } : Pins).hostUp = false ∧ State.reset.hostChan.notice = false ∧
      unmasked { Chan.reset with mask := 0x4000000 } .hostlinkUp = true := by decide +kernel

/-- A part reset that is awaited begins at the link loss. -/
theorem hyps_HostLinkLossAndReturn_reset :
    resetting.pins.hostUp = true ∧ resetting.control.resetAwaited = true := by decide +kernel

theorem test_link_loss_resets : after (fun t => (t.control.resetAwaited, t.control.opState, t.pins.hostUp))
    (exec .hostLinkDown resetting) = some (false, .standby, false) := by decide +kernel

theorem test_hostLinkUp_notifies :
    after (fun t => (t.hostChan.latches, t.control.ready.length))
      (exec .hostLinkUp { watching { Chan.reset with mask := 0x4000000 } with pins := { Pins.atReset with hostUp := false } }) =
        some (BitVec.ofNat 56 (2 ^ latchBit .hostlinkUp), 1) := by decide +kernel

/-! ## Settings (R173) -/

/-- Each setting's range at its ends and one beyond; the setting read, an empty CONF and an unlisted setting. -/
theorem hyps_ConfSetsReadsAndRefuses :
    (∀ n, n < 17 → Front .host codeCONF (cell codeCONF [n]) (put .host (cell codeCONF [n]) ready)) ∧
      settingAllows 0 [1024] ∧ settingAllows 4 [10] ∧ settingAllows 4 [5000] ∧ ¬ settingAllows 4 [5001] ∧
      ¬ settingAllows 4 [9] ∧ settingAllows 10 [0x0600] ∧ ¬ settingAllows 10 [0x05FF] ∧
      settingAllows 12 [3, 1, 2] ∧ ¬ settingAllows 12 [1, 1] ∧ settingAllows 13 [0, 2, 1] ∧ ¬ settingAllows 13 [0, 1] := by
  refine ⟨fun n _ => ⟨rfl, rfl⟩, ?_⟩
  simp [settingAllows]

theorem test_conf_out_of_range :
    hostStatus (exec (.confDriveTimeout .host) (put .host (cell codeCONF [4, 5001]) State.reset)) = some .badarg := by
  decide +kernel

theorem test_conf_unlisted :
    hostStatus (exec (.confCaptureFloor .host) (put .host (cell codeCONF [17, 1]) State.reset)) = some .badarg := by
  decide +kernel

theorem hyps_ConfLaterSettingsChangeOneField :
    Front .host codeCONF (cell codeCONF [11, 2 ^ 40 - 1]) (put .host (cell codeCONF [11, 2 ^ 40 - 1]) ready) ∧
      (2 ^ 40 - 1).testBit 40 = false ∧ 2 ^ 40 - 1 < 2 ^ 48 ∧ (2 ^ 40).testBit 40 = true := by
  unfold Front; decide +kernel

theorem hyps_ConfLaterSettingsChangeOneField_modes :
    Front .host codeCONF (cell codeCONF [12, 3, 1, 2]) (put .host (cell codeCONF [12, 3, 1, 2]) ready) ∧
      (cell codeCONF [12, 3, 1, 2]).fields = 12 :: [3, 1, 2] ∧ settingAllows 12 [3, 1, 2] ∧
      [3, 1, 2] = ([.preview, .windowed, .basic] : List Mode).map modeCode := by
  refine ⟨⟨rfl, rfl⟩, by decide +kernel, ?_, rfl⟩
  simp [settingAllows]

theorem hyps_DriveTimeoutAppliesToLaterDrives :
    Front .host codeCONF (cell codeCONF [4, 10]) (put .host (cell codeCONF [4, 10]) ready) ∧
      (cell codeCONF [4, 10]).fields = [4, 10] ∧ 10 ≤ 10 ∧ 5000 ≤ 5000 ∧ 9 < 10 ∧ 5000 < 5001 := by
  unfold Front; decide +kernel

theorem hyps_ConfSettingsThatActAtOnce :
    Front .host codeCONF (cell codeCONF [9, 0]) (put .host (cell codeCONF [9, 0]) (bound ready)) ∧
      TetherLegal (bound ready).tether ∧ TetherLegal ready.tether ∧ ready.cardMode = .independent ∧
      ({ ready with cardMode := .overflow } : State).cardMode = .overflow ∧ settingAllows 13 [2, 0, 1] ∧
      [2, 0, 1] = ([.prv, .raw, .dev] : List Rendition).map rendCode := by
  refine ⟨⟨rfl, rfl⟩, ?_⟩
  refine ⟨by unfold TetherLegal; decide +kernel, by unfold TetherLegal; decide +kernel, rfl, rfl, ?_, rfl⟩
  simp [settingAllows]

/-- A warning level under which the space condition changes and one under which it stays; tether power off unbound. -/
theorem hyps_ConfSettingsThatActAtOnce_space :
    Front .host codeCONF (cell codeCONF [1, 4032]) (put .host (cell codeCONF [1, 4032]) ready) ∧
      (cell codeCONF [1, 4032]).fields = [1, 4032] ∧ decide (ready.store.free.length < 4032) ≠ ready.store.low ∧
      Front .host codeCONF (cell codeCONF [1, 0]) (put .host (cell codeCONF [1, 0]) ready) ∧
      decide (ready.store.free.length < 0) = ready.store.low ∧
      Front .host codeCONF (cell codeCONF [9, 0]) (put .host (cell codeCONF [9, 0]) ready) ∧
      ready.tether.link ≠ .bound ∧ (bound ready).tether.link = .bound := by
  unfold Front; decide +kernel

theorem test_warning_level : after (fun t => (t.store.warnLevel, t.store.low))
    (exec (.confSpaceWarningLevel .host) (put .host (cell codeCONF [1, 4032]) ready)) = some (4032, true) := by
  decide +kernel

theorem test_power_off : after (fun t => (t.tether.link, t.tether.result, t.tether.window, t.tether.settings.power))
    (exec (.confTetherPower .host) (put .host (cell codeCONF [9, 0]) (bound ready))) = some (.down, .lost, 0, false) := by
  decide +kernel

/-! ## Loads (R174 to R176) -/

def loadCell : Cell := cell codeLOAD [6, 5]

theorem hyps_LoadOpensTheRecord :
    Front .host codeLOAD loadCell (put .host loadCell ready) ∧ loadKindOfCode 6 = some .aliases ∧
      loadCell.fields = [6, 5] ∧ ready.control.load = none ∧ ready.control.loadBuffer.length < 5 ∧
      loadKindOfCode 4 = some .recipe ∧ (cell codeLOAD [4, 3, 65536]).fields = [4, 3, 65536] ∧
      ready.pins.hostUp = true ∧ ([1, 3, 0, 4, 0] : List Byte) = [1, 3, 0, 4] ++ [0] ∧ ([0] : List Byte).length ≤ 65536 ∧
      5 < ([1, 3, 0, 4, 0, 9] : List Byte).length := by
  unfold Front; decide +kernel

/-- A load in progress that lacks its last byte. -/
def loading (kind : LoadKind) (buffer : List Byte) : State :=
  { State.reset with
    control := { Control.reset with
      load := some { kind, slot := 0, length := buffer.length + 1, tag := 7, code := codeLOAD }
      loadBuffer := buffer } }

theorem test_load_buffered_ahead :
    after (fun t => (t.lens.aliases, t.control.load, t.control.loadBuffer))
      (exec (.loadAliases .host) (put .host loadCell
        { ready with control := { ready.control with loadBuffer := [1, 3, 0, 4, 0] } })) =
      some ([(3, 4)], none, []) := by decide +kernel

theorem hyps_LoadRefusesInOrder :
    Front .host codeLOAD (cell codeLOAD [7]) (put .host (cell codeLOAD [7]) ready) ∧
      Front .host codeLOAD (cell codeLOAD [4, 4, 1]) (put .host (cell codeLOAD [4, 4, 1]) ready) ∧
      Front .host codeLOAD loadCell (put .host loadCell (loading .aliases [])) ∧
      (loading .aliases []).control.load ≠ none ∧ ready.control.opState = .run ∧
      Front .host codeLOAD (cell codeLOAD [4, 0, 0]) (put .host (cell codeLOAD [4, 0, 0]) ready) := by
  unfold Front; decide +kernel

theorem test_load_too_long :
    hostStatus (exec (.loadAliases .host) (put .host (cell codeLOAD [6, 65537]) ready)) = some .badarg := by decide +kernel

theorem test_load_recipe_length_zero :
    hostStatus (exec (.loadRecipe .host) (put .host (cell codeLOAD [4, 3, 0]) ready)) = some .done := by decide +kernel

theorem hyps_LoadUnitGathersBytes :
    State.reset.pins.hostUp = true ∧ State.reset.control.load = none ∧
      (loading .aliases [1]).control.load = some { kind := .aliases, slot := 0, length := 2, tag := 7, code := codeLOAD } ∧
      ([1] ++ [0] : List Byte).length = 2 ∧ 2 < ([1] ++ [0, 0] : List Byte).length := by decide +kernel

/-- Images of every kind that pass, each read back; and one that fails. -/
theorem hyps_CompleteImageIsInstalledOrRefused :
    (readGeometry [2, 2, 0, 64, 0, 12, 5, 0, 1, 1, 0, 1, 0]).map geometryOk = some true ∧
      (readProfiles [1, 7, 1, 0, 0, 1, 0, 0, 0, 0]).map profilesOk = some true ∧
      (readRouting (List.replicate 20 1)).map routingOk = some true ∧
      (readSites [1, 95, 0, 0, 0, 8, 0, 1, 0]).map sitesOk = some true ∧
      (readRecipe ([2, 0, 0, 0, 0, 1, 0, 0, 0] ++ List.replicate 24 1 ++ [0, 90, 0, 0, 1, 0, 0])).map recipeOk = some true ∧
      (readLensProfiles [1, 3, 0, 1, 2, 0, 0, 100, 0, 16, 0, 3, 0, 0, 0]).map lensProfilesOk = some true ∧
      (readAliases [1, 3, 0, 4, 0]).map aliasesOk = some true ∧ readAliases [1, 3, 0, 4] = none ∧
      (readAliases [1, 255, 255, 4, 0]).map aliasesOk = some false ∧
      (loading .aliases [1, 3, 0, 4]).control.loadBuffer ++ [0] = [1, 3, 0, 4, 0] := by decide +kernel

theorem test_load_aliases :
    after (fun t => (t.lens.aliases, t.control.load)) (exec (.loadUnit [0]) (loading .aliases [1, 3, 0, 4])) =
      some ([(3, 4)], none) := by decide +kernel

theorem test_load_badtable : hostStatus (exec (.loadUnit [9]) (loading .aliases [1, 3, 0])) = some .badtable := by
  decide +kernel

/-! ## Shots (01) -/

def number1 (code : Word32) : Cell := cell code [1]
def held : Shot := { owedDesk with hostHold := true, deskHold := true }

/-- Sixteen shots with a desk hold behind one without. -/
def sixteenHeld : State :=
  { ready with
    store := { ready.store with
      shots := owedDesk :: (List.range 16).map fun i => { held with slot := i + 1, number := some (i + 2) } } }

theorem hyps_HoldsAreSetAndCleared :
    shotNumbered (put .host (number1 codeHOLD) (holding owedDesk)) 1 = some owedDesk ∧
      FrontInRun .host codeHOLD (number1 codeHOLD) (put .host (number1 codeHOLD) (holding owedDesk)) ∧
      FrontInRun .desk codeDHLD (number1 codeDHLD) (put .desk (number1 codeDHLD) (holding owedDesk)) ∧
      (sixteenHeld.store.shots.filter fun y => y.deskHold).length = 16 ∧
      shotNumbered sixteenHeld 1 = some owedDesk ∧ owedDesk.deskHold = false ∧
      FrontInRun .host codeUNHD (number1 codeUNHD) (put .host (number1 codeUNHD) (holding held)) ∧
      shotNumbered (holding held) 1 = some held ∧ held.hostHold = true ∧ owedDesk.hostHold = false ∧
      FrontInRun .desk codeDUNH (number1 codeDUNH) (put .desk (number1 codeDUNH) (holding held)) ∧
      shotAt (holding held) 0 = some held ∧ shotAt (holding owedDesk) 0 = some owedDesk := by
  unfold FrontInRun Front; decide +kernel

theorem test_dhld_full : after (fun t => (t.store.shots.filter fun y => y.deskHold).length)
    (exec (.dhld .desk) (put .desk (number1 codeDHLD) sixteenHeld)) = some 16 := by decide +kernel

theorem test_unhd_releases : after (fun t => (t.store.shots.length, t.store.free))
    (exec (.unhd .host) (put .host (number1 codeUNHD)
      (holding { shotWith [] with state := .settled, hostHold := true }))) =
      some (0, [64, 65, 66, 67, 68, 69, 70, 71, 64]) := by decide +kernel

def settled : Shot := { shotWith [] with state := .settled }
def done : Shot := { settled with raw := { rawRend 3 with state := .released, pages := [], content := .none } }

theorem hyps_NeedRuleReleasesAndRetires :
    shotAt (holding settled) 0 = some settled ∧ (rendOf settled .raw).state = .ready ∧
      (rendOf settled .raw).readers = 0 ∧ needed settled .raw = false ∧ needed owedDesk .raw = true ∧
      shotAt (holding done) 0 = some done ∧ done.state = .settled ∧
      (∀ r, (rendOf done r).state = .absent ∨ (rendOf done r).state = .released) := by
  refine ⟨by decide +kernel, by decide +kernel, by decide +kernel, by decide +kernel, by decide +kernel, by decide +kernel,
    by decide +kernel, fun r => ?_⟩
  cases r <;> decide +kernel

/-- Eight free pages of 4,032: the count is below the level while the condition held is OK. -/
theorem hyps_NeedRuleReleasesAndRetires_pages :
    decide (ready.store.free.length < ready.store.warnLevel) ≠ ready.store.low ∧
      decide (State.reset.store.free.length < State.reset.store.warnLevel) = State.reset.store.low ∧
      ready.dev.state ≠ .waitSpace ∧ ready.store.free.length ≤ ready.store.floor ∧ ([70] : List Nat) ≠ [] := by
  decide +kernel

theorem test_pages_join_the_tail :
    (returnPages [71, 70] ready).store.free = [64, 65, 66, 67, 68, 69, 70, 71, 71, 70] ∧
      (returnPages [71, 70] ready).store.low = true := by decide +kernel

theorem hyps_DutyMovesKeepOrderAndReaders :
    dutyOf owedDesk .desk .raw = some (duty .desk .raw .owed) ∧ (Dest.cardA, Rendition.raw) ≠ (.desk, .raw) ∧
      shotAt (holding owedDesk) 0 = some owedDesk ∧ (rendOf owedDesk .raw).state = .ready ∧
      (rendOf { owedDesk with dev := { absentRend with state := .pending } } .dev).state = .pending ∧
      (rendOf owedDesk .prv).state = .absent := by decide +kernel

/-- A DEV that nothing needs any more. -/
def unwantedDev : Shot := { settled with dev := { absentRend with state := .pending } }

theorem hyps_DutyMovesKeepOrderAndReaders_tests :
    shotAt (holding unwantedDev) 0 = some unwantedDev ∧ (rendOf unwantedDev .dev).state = .pending ∧
      needed unwantedDev .dev = false ∧ settled.dev.state ≠ .pending ∧ settled.prv.state ≠ .pending ∧
      Rendition.dev ≠ .raw ∧ (rendOf { settled with dev := { absentRend with state := .filling } } .dev).state = .filling ∧
      needed (shotWith [duty .desk .dev .owed]) .dev = true := by decide +kernel

def prioCell : Cell := cell codePRIO [1, 7]
def rushCell : Cell := cell codeRUSH [1, 0]

theorem hyps_PrioAndRushSetThePriority :
    FrontInRun .host codePRIO prioCell (put .host prioCell (holding owedDesk)) ∧
      FrontInRun .desk codeRUSH rushCell (put .desk rushCell (holding owedDesk)) ∧
      shotNumbered (holding owedDesk) 1 = some owedDesk ∧ prioCell.fields = [1, 7] ∧ rushCell.fields = [1, 0] ∧
      0 ∉ ready.dev.queue ∧ 0 ∈ ({ ready.dev with queue := [0] } : DevEngine).queue ∧
      shotAt sixteenHeld 0 = some owedDesk ∧
      shotAt sixteenHeld 1 = some { held with slot := 1, number := some 2 } ∧ developBefore sixteenHeld 0 1 = true := by
  unfold FrontInRun Front; decide +kernel

def capnCell : Cell := cell codeCAPN [1, 65535] [9]
def longChain : Shot := { owedDesk with chain := List.replicate 22 { ident := 1, data := List.replicate 42 0 } }

theorem hyps_CapnAppendsOneEntry :
    FrontInRun .desk codeCAPN capnCell (put .desk capnCell (holding owedDesk)) ∧ capnCell.fields = [1, 65535] ∧
      capnCell.data = [9] ∧ capnCell.code = codeCAPN ∧ capnCell.args.length = 48 ∧ capnCell.argLen.toNat = 7 ∧
      shotNumbered (holding owedDesk) 1 = some owedDesk ∧
      chainLength owedDesk.chain + 4 + capnCell.data.length ≤ 1024 ∧
      1024 < chainLength longChain.chain + 4 + 42 ∧ chainLength longChain.chain + 4 + 8 ≤ 1024 := by
  unfold FrontInRun Front; decide +kernel

theorem hyps_ReadsChangeNothing :
    Front .desk codeSLST (cell codeSLST [4294967295]) (put .desk (cell codeSLST [4294967295]) State.reset) ∧
      Front .host codeSHOT (cell codeSHOT [1, 9]) (put .host (cell codeSHOT [1, 9]) (holding owedDesk)) ∧
      shotNumbered (holding owedDesk) 1 = some owedDesk ∧
      Front .host codeBLOG (cell codeBLOG [7]) (put .host (cell codeBLOG [7]) State.reset) ∧
      (cell codeSLST [4294967295]).fields = [4294967295] ∧ (cell codeSHOT [1, 9]).fields = [1, 9] ∧
      (cell codeBLOG [7]).fields = [7] ∧ owedDesk.number = some 1 ∧ 1 < { ready.store with nextNumber := 2 }.nextNumber := by
  unfold Front; decide +kernel

def focusShot : Shot :=
  { owedDesk with
    focus := some
      { state := .locked, measuredFrame := some 9, inBand := true, error := some (-2), position := none
        sites := [3, 1], centroid := some (5, 6) } }

theorem hyps_ReadsChangeNothing_image :
    (focusShot.focus.map fun f => f.sites.length) = some 2 ∧ 2 ≤ 16 ∧ owedDesk.focus = none := by decide +kernel

/-- One duty and no chain, and the focus fields of the summary. -/
theorem test_shot_image :
    (imageBytes focusShot).length = 138 ∧ (imageBytes focusShot).take 6 = [138, 0, 0, 2, 0, 1] ∧
      ((imageBytes focusShot).drop 41).take 11 = [3, 254, 255, 255, 255, 7, 0, 5, 0, 6, 0] := by decide +kernel

theorem test_slst_runs_on :
    after (fun t => t.control.ready.map fun c => (c.args.length, c.continued))
      (exec (.slst .host) (put .host (cell codeSLST [1]) sixteenHeld)) = some [(48, true), (48, false)] := by
  decide +kernel

/-- Number 0, three bytes that are no number, and a number no shot has. -/
theorem hyps_NamingAShotIsCheckedFirst :
    FrontInRun .host codeWAIV (cell codeWAIV [0, 2, 2]) (put .host (cell codeWAIV [0, 2, 2]) (holding owedDesk)) ∧
      FrontInRun .desk codeSKIP (cell codeSKIP [2, 2]) (put .desk (cell codeSKIP [2, 2]) (holding owedDesk)) ∧
      shotNumbered (put .desk (cell codeSKIP [2, 2]) (holding owedDesk)) 2 = none ∧ 4294967295 < 4294967296 ∧
      (cell codeSKIP [2, 2]).fields = [2, 2] ∧ (cell codeWAIV [0, 2, 2]).fields = [0, 2, 2] ∧
      Front .host codeHOLD { cell codeHOLD [1] with argLen := 3 } (put .host { cell codeHOLD [1] with argLen := 3 } ready) ∧
      ({ cell codeHOLD [1] with argLen := 3 } : Cell).fields = [2 ^ 64] ∧
      FrontInRun .desk codeCAPN (cell codeCAPN [0, 65535] [9]) (put .desk (cell codeCAPN [0, 65535] [9]) ready) ∧
      (cell codeCAPN [0, 65535] [9]).fields = [0, 65535] ∧ (cell codeCAPN [0, 65535] [9]).data.length = 1 ∧
      Front .host codeSHOT (cell codeSHOT [0, 0]) (put .host (cell codeSHOT [0, 0]) ready) := by
  unfold FrontInRun Front; decide +kernel

/-- A destination, a rendition and a priority at the first value beyond their ranges, and a CAPN without data. -/
theorem hyps_NamingAShotIsCheckedFirst_ranges :
    FrontInRun .host codeWAIV (cell codeWAIV [1, 3, 0]) (put .host (cell codeWAIV [1, 3, 0]) (holding owedDesk)) ∧
      (cell codeWAIV [1, 3, 0]).fields = [1, 3, 0] ∧ (cell codeWAIV [1, 0, 3]).fields = [1, 0, 3] ∧
      FrontInRun .host codePRIO (cell codePRIO [1, 8]) (put .host (cell codePRIO [1, 8]) (holding owedDesk)) ∧
      (cell codePRIO [1, 8]).fields = [1, 8] ∧ 8 ≤ 8 ∧ 3 ≤ 3 ∧
      FrontInRun .desk codeRUSH (cell codeRUSH [1, 8]) (put .desk (cell codeRUSH [1, 8]) (holding owedDesk)) ∧
      FrontInRun .desk codePULL (cell codePULL [1, 3]) (put .desk (cell codePULL [1, 3]) (holding owedDesk)) ∧
      FrontInRun .desk codeSKIP (cell codeSKIP [1, 3]) (put .desk (cell codeSKIP [1, 3]) (holding owedDesk)) ∧
      (cell codeRUSH [1, 8]).fields = [1, 8] ∧ (cell codePULL [1, 3]).fields = [1, 3] ∧
      (cell codeSKIP [1, 3]).fields = [1, 3] ∧
      FrontInRun .host codeCAPN (cell codeCAPN [1, 0]) (put .host (cell codeCAPN [1, 0]) (holding owedDesk)) ∧
      (cell codeCAPN [1, 0]).fields = [1, 0] ∧ (cell codeCAPN [1, 0]).data = [] := by
  unfold FrontInRun Front; decide +kernel

theorem test_gone : hostStatus (exec (.hold .host) (put .host (cell codeHOLD [2]) (holding owedDesk))) = some .gone := by
  decide +kernel

def writingShot : Shot := shotWith [duty .cardA .raw .active]
def sendingShot : Shot := shotWith [{ duty .desk .raw .active with expiry := some 5 }]
def expiringShot : Shot := shotWith [{ duty .desk .raw .owed with expiry := some 5 }]
def sending (s : State) : State := { s with tether := { boundTether with transfer := some transfer } }

theorem hyps_DutiesEndWithoutDelivery :
    FrontInRun .host codeWAIV (cell codeWAIV [1, destCode .cardA, rendCode .raw])
        (put .host (cell codeWAIV [1, destCode .cardA, rendCode .raw]) (cardWith writingCard (holding writingShot))) ∧
      shotNumbered (holding writingShot) 1 = some writingShot ∧
      dutyOf writingShot .cardA .raw = some (duty .cardA .raw .active) ∧ dutyOf writingShot .desk .raw = none ∧
      slotOfDest .cardA = some .a ∧ (card (cardWith writingCard ready) .a).write = some write ∧
      write.slot = writingShot.slot ∧ write.rend = .raw ∧
      FrontInRun .desk codeSKIP (cell codeSKIP [1, rendCode .raw])
        (put .desk (cell codeSKIP [1, rendCode .raw]) (sending (holding sendingShot))) ∧
      (sending (holding sendingShot)).tether.transfer = some transfer ∧ transfer.slot = sendingShot.slot ∧
      dutyOf expiringShot .desk .raw = some { duty .desk .raw .owed with expiry := some 5 } ∧
      dutyOf (shotWith [duty .desk .raw .met]) .desk .raw = some (duty .desk .raw .met) := by
  unfold FrontInRun Front; decide +kernel

theorem test_duty_expiry : after (fun t => (t.store.shots.length, t.control.timeBase))
    (exec (.dutyExpiry 1 .raw) (holding expiringShot)) = some (0, 5) := by decide +kernel

theorem hyps_PullOwesADeskDuty :
    FrontInRun .desk codePULL (cell codePULL [1, rendCode .dev])
        (put .desk (cell codePULL [1, rendCode .dev]) (holding settled)) ∧
      shotNumbered (holding settled) 1 = some settled ∧ dutyOf settled .desk .dev = none ∧
      (rendOf settled .dev).state = .absent ∧ settled.raw.state = .ready ∧
      dutyOf owedDesk .desk .raw = some (duty .desk .raw .owed) ∧
      dutyOf (shotWith [duty .desk .raw .met]) .desk .raw = some (duty .desk .raw .met) ∧
      (rendOf { settled with raw := { rawRend 3 with state := .filling } } .raw).state = .filling ∧
      (rendOf { settled with dev := { rawRend 3 with state := .pending } } .dev).state = .pending ∧
      (rendOf done .raw).state = .released ∧ (cell codePULL [1, rendCode .dev]).fields = [1, rendCode .dev] ∧
      (Dest.desk, Rendition.raw) ≠ (.desk, .dev) := by unfold FrontInRun Front; decide +kernel

theorem test_pull_develops : after (fun t => (t.dev.state, (t.store.shots.map fun x => x.dev.state)))
    (exec (.pull .desk) (put .desk (cell codePULL [1, 1]) (holding settled))) = some (.developing, [.filling]) := by
  decide +kernel

/-! ## Capture control (03) -/

def noGate : Profile := { profile with releaseMode := .releasePriority }

/-- Armed in READY lens and focus not locked: the release gate is closed. -/
def gated (st : CaptureState) : State :=
  { armed st with lens := { driving with state := .ready, inFlight := none, driveTimer := none } }

def burst : BurstRecord :=
  { number := 1, profile := 0, start := 0, first := none, pre := 0, post := 0, missedSpace := 0, missedSlot := 0,
    missedFocus := 0, ended := none }

def firing (st : CaptureState) : State :=
  { armed st with capture := { (armed st).capture with log := [burst], nextBurst := 2 } }

theorem hyps_ArmcArmsTheNamedSlot :
    FrontInRun .host codeARMC (cell codeARMC [7]) (put .host (cell codeARMC [7]) ready) ∧
      (cell codeARMC [7]).fields = [7] ∧ ready.intake.geometry ≠ none ∧ ready.store.routing ≠ none ∧
      ready.capture.profiles.getD 7 none = some profile ∧ ready.capture.profiles.getD 6 none = none ∧
      ready.capture.state = .disarmed ∧ ready.pins.release = false ∧ ready.capture.fireLatch = false ∧
      (armed .armed).capture.armed = some 0 ∧ (armed .armed).capture.armed ≠ some 7 ∧ (armed .firing).capture.state ≠ .armed ∧
      releaseGate (armed .armed) = true ∧ releaseGate (gated .armed) = false := by
  unfold FrontInRun Front; decide +kernel

theorem test_armc : after (fun t => (t.capture.state, t.capture.armed, t.focus.state))
    (exec (.armc .host) (put .host (cell codeARMC [7]) ready)) = some (.armed, some 7, .idle) := by decide +kernel

theorem hyps_DsrmDisarms :
    FrontInRun .host codeDSRM (cell codeDSRM []) (put .host (cell codeDSRM []) (firing .stalled)) ∧
      (firing .stalled).capture.state = .stalled ∧ ready.capture.state = .disarmed ∧
      shotAt (holding settled) 0 = some settled := by unfold FrontInRun Front; decide +kernel

def latched1 (s : State) : State := { s with capture := { s.capture with fireLatch := true } }
def released1 (s : State) : State := { s with pins := { s.pins with release := true } }

theorem hyps_FireLatchAndReleaseLineMove :
    FrontInRun .host codeFIRE (cell codeFIRE []) (put .host (cell codeFIRE []) (armed .armed)) ∧
      FrontInRun .host codeCEAS (cell codeCEAS []) (put .host (cell codeCEAS []) (latched1 (armed .spent))) ∧
      (armed .armed).capture.state ≠ .disarmed ∧ (armed .armed).capture.fireLatch = false ∧
      (latched1 (armed .spent)).capture.fireLatch = true ∧ (released1 (armed .armed)).pins.release = true ∧
      (armed .armed).pins.release = false := by unfold FrontInRun Front; decide +kernel

theorem test_fire : after (fun t => (t.capture.state, t.capture.log.length, t.capture.nextBurst))
    (exec (.fire .host) (put .host (cell codeFIRE []) (armed .armed))) = some (.firing, 1, 2) := by decide +kernel

/-- A burst open, and a load in progress. -/
theorem hyps_IdentityAndOperatingState_burst :
    (firing .firing).capture.state = .firing ∧ (firing .stalled).capture.state = .stalled ∧
      FrontInRun .host codeSTBY (cell codeSTBY []) (put .host (cell codeSTBY []) (firing .firing)) ∧
      (loading .aliases [1]).control.load = some { kind := .aliases, slot := 0, length := 2, tag := 7, code := codeLOAD } ∧
      State.reset.control.load = none := by unfold FrontInRun Front; decide +kernel

theorem test_stby_ends_burst :
    after (fun t => (t.capture.log.map (fun b => b.ended), t.capture.state, t.control.ready.getLast?.map fun c => c.status))
      (exec (.stby .host) (put .host (cell codeSTBY []) (firing .firing))) =
        some ([some .disarmed], .disarmed, some .done) := by decide +kernel

theorem hyps_GatesAndTheOpeningBurst :
    armedProfile (armed .armed) = some profile ∧ shotAt (holding settled) 0 = some settled ∧
      settled.state ≠ .held ∧ ({ settled with state := .held } : Shot).state = .held := by decide +kernel

theorem hyps_GatesAndTheOpeningBurst_finish :
    (armed .awaitingFocus).capture.state = .awaitingFocus ∧ releaseGate (armed .awaitingFocus) = true ∧
      releaseGate (gated .awaitingFocus) = false ∧ (armed .armed).capture.state ≠ .awaitingFocus := by decide +kernel

def focused (s : State) : State := { s with pins := { s.pins with focus := true } }

theorem hyps_LinesMoveTheCaptureState :
    (armed .gathering).capture.state = .gathering ∧ releaseGate (armed .armed) = true ∧
      releaseGate (gated .gathering) = false ∧ (firing .firing).capture.state = .firing ∧
      (armed .awaitingFocus).capture.state = .awaitingFocus ∧ (armed .spent).capture.state = .spent ∧
      (focused (armed .armed)).pins.focus = true ∧ armedProfile (armed .armed) = some profile ∧ 1 ≤ profile.depth ∧
      armedProfile ready = none ∧ ready.pins.focus = false := by decide +kernel

/-- A focus engine that has been told of SINGLE mode. -/
def single (st : FocusState) (demand : Bool) : Focus :=
  { Focus.reset with armed := true, mode := some .single, state := st, demand }

theorem hyps_LinesMoveTheCaptureState_reports :
    Focus.reset.armed = false ∧ (single .idle false).armed = true ∧ (single .idle false).mode ≠ some .continuous ∧
      (single .idle false).mode = some .single ∧ (single .idle false).demand ≠ true ∧
      (single .idle false).state = .idle ∧ (single .off false).state = .off ∧
      (single .locked true).demand ≠ false ∧ (single .locked true).state ≠ .off ∧
      (single .locked true).state ≠ .idle := by decide +kernel

theorem test_reports :
    ([reportToFocus (some .single) true (single .idle false), reportToFocus (some .single) false (single .locked true),
      reportToFocus (some .continuous) true (single .locked true), reportToFocus (some .manual) true (single .locked true),
      reportToFocus none false (single .locked true)].map fun f => f.state) =
      [.seeking, .idle, .tracking, .off, .off] := by decide +kernel

theorem test_release_closed_gate :
    after (fun t => t.capture.state) (exec (.releaseLineChange true) (gated .armed)) = some .awaitingFocus := by
  decide +kernel

theorem test_focus_gathers :
    after (fun t => t.capture.state) (exec (.focusLineChange true) (armed .armed)) = some .gathering := by decide +kernel

/-! ## Sensor intake (02) -/

/-- Both lanes LOCKED and usable, no live timer. -/
def lanesUp (s : State) : State :=
  { s with
    intake := { s.intake with
      lanes := [{ locked := true, usable := true, timer := some 1 }, { locked := true, usable := true, timer := none },
                Lane.reset, Lane.reset] } }

def frame : OpenFrame :=
  { counter := 9, lastImage := none, lastPhase := none, embedded := [], rejRange := 0, rejOrder := 0, rejIncomplete := 0,
    staleTimer := some 4000, geometry, source := .sensor, shot := none, truncated := false, lastStored := none,
    liveBuffer := none, fills := 0, phases := [], reduced := [] }

def inFrame (f : OpenFrame) (s : State) : State := { lanesUp s with intake := { (lanesUp s).intake with frame := some f } }

def reading : Shot :=
  { settled with state := .exposing, raw := { absentRend with state := .filling, pages := [64], content := .raw [] } }

theorem hyps_FrameStartOpensAFrame :
    (lanesUp ready).intake.source = .sensor ∧ (lanesUp ready).intake.geometry = some geometry ∧ 1 ≤ geometry.laneCount ∧
      (laneAt (lanesUp ready) 0).locked = true ∧ (inFrame frame ready).intake.frame = some frame ∧
      (inFrame frame ready).intake.parts = [] ∧ (lanesUp ready).intake.frame = none ∧ ready.capture.state = .disarmed ∧
      (armed .armed).capture.state ≠ .disarmed ∧ ready.intake.buffer0.state = .free ∧
      State.reset.intake.geometry = none := by decide +kernel

/-- Lane 0 LOCKED and LOST, a line begun, and a shot whose first page is granted and refused. -/
theorem hyps_FrameStartOpensAFrame_lanes :
    (∃ u, exec (.fillerSequence 0) (lanesUp ready) = .next u) ∧ (∃ u, exec (.fillerSequence 0) ready = .next u) ∧
      (laneAt ready 0).locked = false ∧ (lanesUp ready).intake.parts = [] ∧ ready.control.opState = .run ∧
      (frameStartCapture (firing .firing)).2 = some 0 ∧ (frameStartCapture (gated .firing)).2 = none ∧
      (takeRawPage 0 (frameStartCapture (firing .firing)).1).isSome = true ∧
      (takeRawPage 0
        { holding reading with store := { (holding reading).store with free := [] } }).isNone = true := by
  refine ⟨⟨_, rfl⟩, ⟨_, rfl⟩, ?_⟩
  decide +kernel

def waitingBuffer : LiveBuffer := { state := .waiting, frame := none }
def fillingBuffer : LiveBuffer := { state := .filling, frame := none }

/-- No FREE buffer, and the WAITING one first, second or nowhere. -/
theorem hyps_FrameStartOpensAFrame_buffers :
    waitingBuffer.state ≠ .free ∧ waitingBuffer.state = .waiting ∧ fillingBuffer.state ≠ .free ∧
      fillingBuffer.state ≠ .waiting ∧ ready.control.opState = .run := by decide +kernel

theorem test_waiting_frame_dropped :
    after (fun t => (t.intake.frame.map (fun f => f.liveBuffer), t.intake.counters.liveDropped))
      (exec (.frameStart true 9)
        (let s := lanesUp (armed .armed)
         { s with intake := { s.intake with buffer0 := fillingBuffer, buffer1 := waitingBuffer } })) =
      some (some (some 1), 1) := by decide +kernel

theorem test_frameStart : after (fun t => (t.intake.frame.map fun f => (f.counter, f.liveBuffer, f.shot)))
    (exec (.frameStart true 9) (lanesUp (firing .firing))) = some (some (9, some 0, some 0)) := by decide +kernel

/-- A full table, too few pages, a frame that is due and one that is not, and a burst at its limit. -/
theorem hyps_FrameStartAdmitsShots :
    freeSlot ready = some 0 ∧ freeSlot (holding settled) = some 1 ∧ ready.store.free.length < 9 ∧
      profile.reserve ≤ ready.store.free.length ∧ (armed .firing).capture.armed = some 0 ∧
      armedProfile (armed .firing) = some profile ∧ (armed .firing).capture.burstFrames % profile.interval = 0 ∧
      3 % 2 ≠ 0 ∧ frameGate (armed .firing) profile = true ∧ frameGate (gated .firing) profile = false ∧
      (firing .firing).capture.log.getLast? = some burst ∧ profile.limit ≠ 0 ∧ satInc burst.post = profile.limit := by
  decide +kernel

theorem hyps_FrameStartAdmitsShots_ring :
    (armed .gathering).capture.state = .gathering ∧ freeSlot (armed .gathering) = some 0 ∧
      profile.reserve ≤ (armed .gathering).store.free.length ∧ armedProfile (armed .gathering) = some profile ∧
      (armed .stalled).capture.state = .stalled := by decide +kernel

/-- A shot of a burst takes what the lens and the focus engine show. -/
theorem test_snapshots :
    after (fun t => t.store.shots.map fun x =>
        (x.lens.map (fun l => l.moving) == some true && x.focus.map (fun f => f.state) == some .locked, x.burst))
      (exec (.frameStart true 9)
        (lanesUp { lensIn driving (firing .firing) with focus := { Focus.reset with state := .locked } })) =
      some [(true, some (1, 1))] := by decide +kernel

/-- Every slot taken. -/
def noSlot : State :=
  { armed .firing with
    store := { ready.store with shots := (List.range 128).map fun i => { settled with slot := i, number := some (i + 1) } } }

theorem test_no_slot_stalls : after (fun t => t.capture.state) (exec (.frameStart true 9) (lanesUp noSlot)) = some .stalled := by
  decide +kernel

def half : List Word16 := List.replicate 32 1
def part (lane : Nat) : LinePart := { lane, number := 0, kind := .image, samples := List.replicate 32 1 }
def begun : State :=
  { inFrame frame ready with intake := { (inFrame frame ready).intake with parts := [part 1] } }

theorem hyps_LinePartsFormALine :
    begun.intake.source = .sensor ∧ begun.intake.geometry = some geometry ∧ begun.intake.frame = some frame ∧
      frame.geometry = geometry ∧ (∀ k, k < geometry.laneCount → usableLane begun k = true) ∧
      (∀ q ∈ begun.intake.parts, q.number = 0 ∧ q.kind = .image ∧ q.lane ≠ 0) ∧
      (∃ q ∈ begun.intake.parts, q.lane = 1) ∧ (inFrame frame ready).intake.parts = [] ∧
      (∀ k, k < 2 → 2 * (shareOf [part 1, part 0] k).length = geometry.samples) ∧
      ¬ (∀ k, k < 2 → 2 * (shareOf [part 1] k).length = geometry.samples) ∧ lanesInUse begun ≤ 2 := by decide +kernel

/-- A LOST lane, a lane LOCKED but not usable, a lane that has contributed to a line begun, a line that awaits a lane, and
one that awaits none, whole and not. -/
theorem hyps_LinePartsFormALine_begun :
    (∃ u, exec (.fillerSequence 1) ready = .next u) ∧ (laneAt ready 1).locked = false ∧ 1 < geometry.laneCount ∧
      usableLane ready 1 = false ∧ usableLane begun 1 = true ∧ (∃ q ∈ begun.intake.parts, q.lane = 1) ∧
      begun.intake.parts = part 1 :: [] ∧ (∀ q ∈ (inFrame frame ready).intake.parts, q.lane ≠ 1) ∧
      usableLane begun 0 = true ∧ (∀ q ∈ [part 1], q.lane ≠ 0) ∧
      (∀ k, k < geometry.laneCount → usableLane ready k = false) ∧
      (∀ k, ¬ (k < geometry.laneCount ∧ ∀ q ∈ [part 1, part 0], q.lane ≠ k)) := by
  refine ⟨⟨_, rfl⟩, rfl, by decide, by decide +kernel, by decide +kernel, by decide +kernel, rfl, by decide +kernel,
    by decide +kernel, by decide +kernel, by decide +kernel, ?_⟩
  rintro k ⟨hk, h⟩
  have h0 := h (part 0) (by decide)
  have h1 := h (part 1) (by decide)
  have : k < 2 := hk
  simp only [part] at h0 h1
  omega

theorem test_line_taken : after (fun t => t.intake.frame.map fun f => f.lastImage)
    (exec (.line 0 true 0 .image half) begun) = some (some (some 0)) := by decide +kernel

def shotFrame : OpenFrame := { frame with shot := some 0 }

theorem hyps_LinesAreCheckedFilledAndPacked :
    (inFrame frame ready).intake.frame = some frame ∧ 1 < frame.geometry.lines ∧ ¬ 2 < frame.geometry.lines ∧
      1 ∈ frame.geometry.phaseLines ∧ 0 ∉ frame.geometry.phaseLines ∧ frame.lastImage = none ∧
      ({ frame with lastImage := some 1 } : OpenFrame).lastImage = some 1 ∧
      (∀ v ∈ List.replicate 64 4095, v < 2 ^ frame.geometry.depth) ∧ shotFrame.shot = some 0 ∧
      shotFrame.truncated = false ∧ shotAt (inFrame shotFrame (holding reading)) 0 = some reading ∧
      0 = nextLine shotFrame ∧
      rawPages (reading.raw.length + (lineBytes geometry 0 false (List.replicate 64 1)).length) ≤ reading.raw.pages.length ∧
      ready.intake.frame = none ∧ shotAt (inFrame shotFrame (holding reading)) 0 = some reading ∧
      reading.raw.pages.length < rawPages (1048576 + 1) ∧ reading.raw.pages.length < 96 ∧ reading.reservation = [] ∧
      ready.store.free = 64 :: [65, 66, 67, 68, 69, 70, 71] ∧ ({ reading with reservation := [9] } : Shot).reservation = 9 :: [] ∧
      96 ≤ (List.replicate 96 0).length ∧ ({ shotFrame with truncated := true } : OpenFrame).truncated = true ∧
      (takeRawPage 0 (holding reading)).isSome = true ∧
      (takeRawPage 0 { holding reading with store := { (holding reading).store with free := [] } }).isNone = true := by
  decide +kernel

/-- Runs whose rest is below three and is three or more, and two samples without a run. -/
theorem hyps_LinesAreCheckedFilledAndPacked_items :
    geometry.runCoding = true ∧ ({ geometry with runCoding := false } : Geometry).runCoding = false ∧
      ([1] ++ List.replicate 131 3 ++ [4] : List Nat).getLast? = some 4 ∧ ([1] : List Nat).getLast? ≠ some 3 ∧
      ([4] : List Nat).head? ≠ some 3 ∧ 131 % 130 < 3 ∧ 3 ≤ 133 % 130 ∧ 3 ≤ 3 ∧
      ∀ front v back, ([1, 2] : List Nat) ≠ front ++ [v, v, v] ++ back := by
  refine ⟨rfl, rfl, by decide +kernel, by decide, by decide, by decide, by decide, by decide, fun front v back h => ?_⟩
  have := congrArg List.length h
  simp at this
  omega

/-- A gap of one line in a shot's RAW is filled before the line, and the shot is damaged. -/
theorem test_gap_filled : (let t := takeLine .image 1 true (List.replicate 64 1) (inFrame shotFrame (holding reading))
    (t.store.shots.map fun x => (x.filled, x.damaged, x.firstFilled), t.intake.counters.fills)) =
      ([(1, true, some 0)], 1) := by decide +kernel

/-- With no page left the shot is truncated. -/
theorem test_truncated : (let x : Shot := { reading with raw := { reading.raw with pages := [] } }
    let s := holding x
    let t := takeLine .image 0 true (List.replicate 64 1)
      (inFrame shotFrame { s with store := { s.store with free := [] } })
    t.store.shots.map fun y => (y.truncated, y.damaged)) = [(true, true)] := by decide +kernel

/-- One run of 64 samples: the line item of 4 bytes and a run item of 4. -/
theorem test_line_bytes : lineBytes geometry 1 false (List.replicate 64 3) = [1, 0, 0, 0, 2, 64, 3, 0] := by decide +kernel

/-- A run of 131 is a run item of 130 and one literal sample, which the next sample joins. -/
theorem test_run_of_131 : lineBytes geometry 0 false (List.replicate 131 3 ++ [4]) =
    [0, 0, 0, 0, 2, 130, 3, 0, 1, 2, 3, 64, 0] := by decide +kernel

theorem hyps_PacketsCloseTheFrame :
    (inFrame frame ready).intake.source = .sensor ∧ (inFrame frame ready).intake.geometry = some geometry ∧
      (laneAt (inFrame frame ready) 0).locked = true ∧ (inFrame frame ready).intake.parts = [] ∧
      frame.staleTimer = some 4000 ∧ ({ frame with staleTimer := none } : OpenFrame).staleTimer = none ∧
      ({ frame with lastImage := some 1 } : OpenFrame).geometry.lines ≤ nextLine { frame with lastImage := some 1 } ∧
      frame.liveBuffer = none ∧ shotFrame.shot = some 0 ∧ ready.intake.waitingGeometry = none ∧
      begun.intake.parts = part 1 :: [] ∧ begun.intake.frame = some frame ∧ (lanesUp ready).intake.frame = none ∧
      ready.control.opState = .run ∧ State.reset.control.opState = .standby := by decide +kernel

/-- A packet on a LOST lane 0. -/
theorem hyps_PacketsCloseTheFrame_lost :
    (∃ u, exec (.fillerSequence 0) ready = .next u) ∧ (laneAt ready 0).locked = false ∧
      ready.intake.source = .sensor ∧ ready.intake.geometry = some geometry ∧ 1 ≤ geometry.laneCount := by
  refine ⟨⟨_, rfl⟩, ?_⟩
  decide +kernel

theorem test_frame_opens_on_lost_lane : after (fun t => ((laneAt t 0).locked, t.intake.frame.map fun f => f.counter))
    (exec (.frameStart true 9) ready) = some (true, some 9) := by decide +kernel

/-- A line begun is rejected incomplete at FRAME_END, and both lines are filled. -/
theorem test_frameEnd_flushes : after (fun t => (t.intake.frame, t.intake.counters.rejIncomplete, t.intake.counters.fills))
    (exec (.frameEnd true) begun) = some (none, 1, 2) := by decide +kernel

theorem test_stale : after (fun t => (t.intake.frame, t.intake.counters.abnormal, t.intake.counters.fills))
    (exec .staleTimerExpiry (inFrame frame ready)) = some (none, 1, 2) := by decide +kernel

def provisional : Shot := { reading with provisional := true, number := none }

theorem hyps_FrameEndCreatesDuties :
    shotAt (holding reading) 0 = some reading ∧ reading.provisional = false ∧ provisional.provisional = true ∧
      ({ ready.capture with ringExposing := some 0 } : Capture).ringExposing = some 0 ∧
      ready.capture.ringExposing ≠ some 0 ∧ ready.store.routing.map (fun t => t.getD reading.cls emptyEntry) = some entry ∧
      redirecting ready = false ∧ ready.cardA.state ≠ .fault ∧ redirecting { ready with cardMode := .overflow } = true := by
  decide +kernel

/-- Redirect with slot B in FAULT and not, and a slot in FAULT without redirect. -/
theorem hyps_FrameEndCreatesDuties_taken :
    redirecting { ready with cardMode := .overflow, cardB := { Card.reset with state := .fault } } = true ∧
      redirecting (cardWith { Card.reset with state := .fault } ready) = false ∧
      (duty .cardA .raw .owed).state = .owed ∧ (duty .cardA .raw .owed).dest = .cardA := by decide +kernel

theorem test_redirect_at_frame_end :
    (cardTaken { ready with cardMode := .overflow, cardB := { Card.reset with state := .fault } }
        [duty .cardA .raw .owed]).map (fun y => (y.dest, y.state, y.reason)) =
      [(.cardA, .waived, some .redirected), (.cardB, .failed, some .cardFault)] := by decide +kernel

theorem hyps_LaneMonitorsLoseAndRelock :
    (lanesUp ready).intake.source = .sensor ∧ ready.control.opState = .run ∧ 1 < lanesInUse (lanesUp ready) ∧
      (laneAt (lanesUp ready) 0).timer = some 1 ∧ (laneAt (lanesUp ready) 1).timer = none ∧
      (laneAt ready 0).locked = false ∧ ¬ 3 < lanesInUse ready := by decide +kernel

/-- A line begun that awaits lane 0, and lane 0 running out. -/
theorem hyps_LaneMonitorsLoseAndRelock_begun :
    begun.intake.parts = part 1 :: [] ∧ (laneAt begun 0).timer = some 1 ∧ (laneAt begun 0).locked = true ∧
      begun.control.opState = .run := by decide +kernel

theorem test_lost_lane_frees_line : after (fun t => (t.intake.parts, t.intake.counters.rejIncomplete))
    (exec (.lossTimerExpiry 0) begun) = some ([], 1) := by decide +kernel

theorem hyps_LaneMonitorsLoseAndRelock_geometry :
    lanesInUse (lanesUp ready) = geometry.laneCount ∧
      lanesInUse (lanesUp ready) ≠ ({ geometry with laneCount := 1 } : Geometry).laneCount := by decide +kernel

def source (k : Source) (t : Timer) (s : State) : State :=
  { s with intake := { s.intake with source := k, patternTimer := t } }

theorem hyps_SourcesFeedTheAssembler :
    FrontInRun .host codeSRCS (cell codeSRCS [1, 2, 4095, 5]) (put .host (cell codeSRCS [1, 2, 4095, 5]) ready) ∧
      (cell codeSRCS [3]).fields = [3] ∧ patternOfCode 2 = some .flat ∧ 4095 ≤ 2 ^ geometry.depth - 1 ∧
      2 ^ geometry.depth - 1 < 4096 ∧ ready.intake.source = .sensor ∧ (source .inject none ready).intake.source = .inject ∧
      (source .pattern (some 1) ready).intake.patternTimer = some 1 ∧ ready.intake.frame = none ∧
      ready.intake.geometry ≠ none ∧ ready.intake.parts = [] ∧ State.reset.control.opState = .standby := by
  unfold FrontInRun Front; decide +kernel

theorem hyps_SourcesFeedTheAssembler_kind :
    FrontInRun .host codeSRCS (cell codeSRCS [1, 3, 0, 5]) (put .host (cell codeSRCS [1, 3, 0, 5]) ready) ∧
      (cell codeSRCS [1, 3, 0, 5]).fields = [1, 3, 0, 5] ∧ 3 ≤ 3 := by unfold FrontInRun Front; decide +kernel

/-- The pattern generator as source, with frames behind it. -/
def generating : State :=
  { source .pattern (some 9) ready with
    intake := { ready.intake with source := .pattern, patternTimer := some 9, patternCounter := 7, interval := 5 } }

/-- PATTERN in effect with other settings and with the same, a frame open under INJECT and PATTERN, packets of each kind,
one of none, one that runs past the end, and a rest without a head. -/
theorem hyps_SourcesFeedTheAssembler_packets :
    FrontInRun .host codeSRCS (cell codeSRCS [1, 2, 9, 5]) (put .host (cell codeSRCS [1, 2, 9, 5]) generating) ∧
      (cell codeSRCS [1, 2, 9, 5]).fields = [1, 2, 9, 5] ∧ generating.intake.source = .pattern ∧ generating.intake.flat ≠ 9 ∧
      patternOfCode 2 = some .flat ∧ (inFrame frame generating).intake.frame = some frame ∧
      ([1, 2] : List Byte).length = 2 ∧
      ([0, 0, 1, 0, 9, 0] : List Byte).length =
        4 + 2 * readLe ((([0, 0, 1, 0, 9, 0] : List Byte).drop 2).take 2) ∧ ([5] : List Byte) ≠ [] ∧
      ([1] : List Byte).length ≠ 2 ∧ ([1, 2] : List Byte).length < 3 ∧ 3 < 2 ^ 32 ∧
      1 ≤ ([1, 0, 2] : List Byte).length ∧ ([1, 0, 2] : List Byte).length < 6 ∧ ready.pins.hostUp = true := by
  unfold FrontInRun Front; decide +kernel

theorem test_srcs_keeps_counter : after (fun t => (t.intake.flat, t.intake.patternCounter, t.intake.patternTimer))
    (exec (.srcs .host) (put .host (cell codeSRCS [1, 2, 9, 5]) generating)) = some (9, 7, some 9) := by decide +kernel

/-- Behind a FRAME_START, a LINE packet of one sample where a line has 64. -/
theorem test_inject_short_line :
    after (fun t => (t.intake.counters.rejIncomplete, t.intake.counters.injectMalformed))
      (exec (.injectUnit ([1, 0, 2, 0, 0, 0, 1, 2] ++ [2, 0, 6, 0, 0, 0, 0, 0, 1, 0, 9, 0])) (source .inject none ready)) =
      some (1, 0) := by decide +kernel

theorem test_pattern_tick : after (fun t => (t.intake.counters.opened, t.intake.patternCounter, t.intake.counters.fills))
    (exec .patternTick (source .pattern (some 1) ready)) = some (1, 1, 0) := by decide +kernel

theorem test_inject_frame : after (fun t => t.intake.frame.map fun f => f.counter)
    (exec (.injectUnit [1, 0, 2, 0, 0, 0, 1, 2]) (source .inject none ready)) = some (some 513) := by decide +kernel

def live (total sent : Nat) : LiveFrame :=
  { sequence := 1, counter := 9, damaged := false, number := none
    image := { factor := 2, width := 32, depth := 12, lines := [] }, height := 1, total, sent }

def sendingBuffer (f : LiveFrame) : State :=
  { ready with intake := { ready.intake with buffer1 := { state := .sending, frame := some f } } }

def sendingReset : State :=
  { sendingBuffer (live 9 0) with control := { ready.control with resetAwaited := true } }

theorem hyps_LiveFramesAreSentOrDropped :
    bufferIn (sendingBuffer (live 65537 0)) .sending = some 1 ∧
      (buffer (sendingBuffer (live 65537 0)) 1).frame = some (live 65537 0) ∧ 0 + 65536 < (live 65537 0).total ∧
      (live 65536 0).total ≤ 0 + 65536 ∧ ready.intake.buffer0.state ≠ .sending ∧
      ({ frame with liveBuffer := some 1 } : OpenFrame).liveBuffer = some 1 ∧ ready.tether.mirrorOn = false ∧
      (liveFrameOf frame .normal ready).total ≠ 0 ∧
      (liveFrameOf { frame with geometry := { geometry with lines := 1 } } .normal ready).total = 0 ∧
      (bound { ready with tether := boundTether }).tether.link = .bound ∧
      ({ boundTether with mirrorOn := true } : Tether).mirrorOn = true ∧
      (buffer (sendingBuffer (live 9 0)) (1 - 1)).state ≠ .waiting ∧ (1 : Nat) ≤ 1 := by decide +kernel

/-- A frame SENDING with a part reset awaited, and the frame of a shot. -/
theorem hyps_LiveFramesAreSentOrDropped_reset :
    sendingReset.pins.hostUp = true ∧ sendingReset.control.resetAwaited = true ∧
      bufferIn sendingReset .sending = some 1 ∧ (buffer sendingReset 1).frame = some (live 9 0) ∧
      (sendingBuffer (live 9 0)).control.resetAwaited = false ∧
      ({ frame with shot := some 0 } : OpenFrame).shot = some 0 ∧ shotAt (holding reading) 0 = some reading ∧
      frame.shot = none := by decide +kernel

theorem test_live_unit_resets : after (fun t => (t.control.resetAwaited, t.control.opState, t.control.lastTaken))
    (exec .liveUnitTaken sendingReset) = some (false, .standby, none) := by decide +kernel

/-- The bulk header and the live descriptor in front of the pixels. -/
theorem test_live_unit : after (fun t => t.control.lastTaken.map fun u => (u.length, u.take 16))
    (exec .liveUnitTaken (sendingBuffer (live 9 0))) =
      some (some (41, [19, 0, 0, 0, 9, 0, 0, 0, 1, 0, 0, 0, 9, 0, 0, 2])) := by decide +kernel

theorem test_mirror_takes_frame :
    after (fun t => (t.tether.mirror, t.intake.buffer0.state))
      (exec (.frameEnd true)
        (let s := inFrame { frame with liveBuffer := some 0 } ready
         { s with tether := { boundTether with mirrorOn := true } })) =
      some (some
        { sequence := 1, total := 96, sent := 0
          image := { factor := 2, width := 32, depth := geometry.depth
                     lines := List.replicate 2 (List.replicate 64 geometry.fill) } }, .sending) := by decide +kernel

/-- A line that is not packed, the frame having no shot, reaches the reducer, and only while the frame is reduced. -/
theorem test_line_reduced :
    after (fun t => t.intake.frame.map fun f => f.reduced)
      (.next (takeLine .image 1 true (List.replicate 64 7) (inFrame { frame with liveBuffer := some 0 } ready))) =
        some (some [List.replicate 64 geometry.fill, List.replicate 64 7]) ∧
      after (fun t => t.intake.frame.map fun f => f.reduced)
        (.next (takeLine .image 0 true (List.replicate 64 7) (inFrame frame ready))) = some (some []) := by decide +kernel

/-- The second pixel of the second row, of blocks of two. -/
theorem test_live_block :
    liveBlock { factor := 2, width := 2, depth := 12, lines := [[1, 2, 3, 4], [5, 6, 7, 8], [9, 10, 11, 12], [13, 14, 15, 16]] }
      1 1 = [[11, 12], [15, 16]] := by decide +kernel

/-! ## Lens (04) -/

def probing (phase : Nat) (nibbles : Nat) : State :=
  lensIn { Lens.reset with state := .probing, phase, nibbles, settleTimer := some 20, aliases := [(3, 4)] } ready

theorem hyps_LensIsAttachedProbedAndDetached :
    ready.pins.lensPresent = false ∧ (probing 3 0).pins.lensPresent = true ∧
      ({ Lens.reset with reprobeTimer := some 1 } : Lens).reprobeTimer = some 1 ∧
      FrontInRun .host codeLPRB (cell codeLPRB []) (put .host (cell codeLPRB []) (probing 3 0)) ∧
      (probing 3 0).lens.state = .probing ∧ (probing 2 0).lens.phase < 3 ∧ (probing 3 0).lens.phase = 3 ∧
      (probing 3 4095).lens.nibbles * 16 + (15 : BitVec 4).toNat = 65535 ∧
      (probing 3 0).lens.nibbles * 16 + (3 : BitVec 4).toNat = 3 ∧ (probing 3 0).lens.aliases = [] ++ (3, 4) :: [] ∧
      ready.lens.state ≠ .probing := by unfold FrontInRun Front; decide +kernel

theorem test_probe_alias : after (fun t => (t.lens.state, t.lens.sensed, t.lens.profileId))
    (exec (.probePhase 3) (probing 3 0)) = some (.identified, some 3, some 4) := by decide +kernel

theorem test_probe_nodrive : after (fun t => t.lens.state) (exec (.probePhase 15) (probing 3 4095)) = some .nodrive := by
  decide +kernel

def lensProfile : LensProfile :=
  { ident := 4, revision := 1, level := 2, first := 0, last := 100, factor := 16, classes := 3,
    chain := [{ ident := 18, data := [1, 5, 2, 0] }] }

/-- Waiting for the answer to a request. -/
def asked (st : LensState) (r : LensRequest) : State :=
  lensIn { Lens.reset with
    state := st, profile := some lensProfile, outstanding := some r, answerTimer := some 9,
    report := some { first := 0, last := 50, classes := 7, apertureMin := 0, apertureMax := 9 } } ready

def offered : State := asked .negotiating (.offer 1 0 50)

theorem hyps_LensContractIsNegotiated :
    (asked .identified .capabilityQuery).lens.outstanding = some .capabilityQuery ∧
      (50 : Word16).toNat ≤ (50 : Word16).toNat ∧ (50 : Word16).toNat < (51 : Word16).toNat ∧
      (7 : BitVec 4) &&& profileClasses offered.lens ≠ 0 ∧ (8 : BitVec 4) &&& profileClasses offered.lens = 0 ∧
      offered.lens.outstanding = some (.offer 1 0 50) ∧ (commonClasses offered.lens).getLsbD 0 = true ∧
      offered.lens.waits ≠ 4 ∧ ({ offered.lens with waits := 4 } : Lens).waits = 4 ∧
      ({ offered.lens with waitTimer := some 1 } : Lens).waitTimer = some 1 ∧
      (setupList offered.lens)[0]? = some { op := .or, index := 5, value := 2 } ∧
      (asked .negotiating (.paramRead 5)).lens.outstanding = some (.paramRead 5) ∧
      (asked .negotiating (.paramWrite 5 2)).lens.outstanding = some (.paramWrite 5 2) := by decide +kernel

theorem test_accept_reads_setup : after (fun t => (t.lens.contract, t.lens.outstanding)) (exec (.accept false) offered) =
    some (some { cls := 1, first := 0, last := 50 }, some (.paramRead 5)) := by decide +kernel

theorem test_late_accept_unexpected : after (fun t => (t.lens.contract, t.lens.counters.unexpected))
    (exec (.accept true) offered) = some (none, 1) := by decide +kernel

theorem test_param_value : after (fun t => t.lens.outstanding) (exec (.paramValue false 5) (asked .negotiating (.paramRead 5))) =
    some (some (.paramWrite 5 7)) := by decide +kernel

theorem hyps_LensDrivesEndArrivedOrFaulty :
    driving.state = .driving ∧ driving.inFlight ≠ none ∧ driving.outstanding ≠ some .abort ∧
      ({ driving with outstanding := some .abort } : Lens).outstanding = some .abort ∧ ready.lens.state ≠ .driving ∧
      offered.lens.answerTimer = some 9 ∧ offered.lens.misses = 0 ∧ ({ offered.lens with misses := 1 } : Lens).misses ≠ 0 ∧
      driving.driveTimer = some 1 ∧ driving.contract = some contract ∧ driving.position = some 12 ∧
      driving.inFlight = some 18 ∧ 12 < 18 ∧ min (max 5 contract.first) contract.last < 12 ∧
      driving.state ≠ .absent ∧ ready.lens.contract = none := by decide +kernel

theorem test_retarget_aborts : (driveRequest 5 (lensIn driving ready)).lens.outstanding = some .abort := by decide +kernel

theorem test_drive_timeout_faults : after (fun t => (t.lens.state, t.lens.reprobeTimer, t.lens.lastSent))
    (exec .driveTimerExpiry (lensIn driving ready)) = some (.fault, some 200000, some .abort) := by decide +kernel

/-! ## Focus (05) -/

def site : Site := { number := 3, phaseIndex := 0, column := 0, width := 8, weight := 2, group := 0 }

def awaited : AwaitedMeasurement :=
  { counter := 9, phases := [(0, [1, 2, 3, 4, 5, 6, 7, 8])], phaseLines := [1], samples := 8, sites := [site] }

def tracking (st : FocusState) (mode : FocusMode) : State :=
  lensIn { driving with state := .ready, inFlight := none, driveTimer := none }
    { ready with
      focus := { Focus.reset with
        sites := [site], target := [3], awaited := [awaited], state := st, mode := some mode, armed := true,
        demand := true } }

theorem hyps_FtgtRetargetsAndDrivesArePlanned :
    FrontInRun .host codeFTGT (cell codeFTGT [3]) (put .host (cell codeFTGT [3]) (tracking .seeking .single)) ∧
      (cell codeFTGT [3]).fields.length ≤ 16 ∧ (cell codeFTGT [3]).fields.Nodup ∧
      site ∈ (tracking .seeking .single).focus.sites ∧ ¬ (cell codeFTGT [3, 3]).fields.Nodup ∧
      (tracking .seeking .single).focus.targetSource = .default ∧
      (tracking .seeking .single).lens.state = .ready ∧
      ({ Focus.reset with error := some 9 } : Focus).error = some 9 ∧ ({ Focus.reset with error := some 9 } : Focus).inBand = false := by
  unfold FrontInRun Front; decide +kernel

theorem test_ftgt_unknown_site :
    hostStatus (exec (.ftgt .host) (put .host (cell codeFTGT [4]) (tracking .seeking .single))) = some .badarg := by
  decide +kernel

/-- Two closed frames, 9 and 10, the second with no site whose phase line was accepted. -/
def blind : AwaitedMeasurement := { awaited with counter := 10, phases := [] }
def twoAwaited (st : FocusState) (mode : FocusMode) : State :=
  updFocus (fun f => { f with awaited := [awaited, blind] }) (tracking st mode)

theorem hyps_MeasurementUpdatesRecordAndState :
    (twoAwaited .seeking .single).focus.awaited = [awaited] ++ blind :: [] ∧ awaited.counter ≠ (10 : Word16).toNat ∧
      blind.counter = (10 : Word16).toNat ∧ awaited.counter = (9 : Word16).toNat ∧
      (twoAwaited .seeking .single).focus.awaited.all (fun m => m.counter != (11 : Word16).toNat) = true ∧
      (tracking .tracking .continuous).focus.state = .tracking ∧ (tracking .lost .continuous).focus.mode = some .continuous ∧
      (tracking .locked .single).focus.state = .locked ∧ [site][0]? = some site ∧ measurable awaited site = true ∧
      awaited.phases.find? (fun q => q.1 == site.phaseIndex) = some (0, [1, 2, 3, 4, 5, 6, 7, 8]) ∧
      measurable awaited { site with width := 9 } = false ∧ measurable blind site = false := by decide +kernel

/-- The later of the frames may be measured first; the other still waits, and a counter that none has changes nothing. -/
theorem test_measurement_of_the_later_frame :
    after (fun t => (t.focus.awaited, t.focus.measuredFrame, t.focus.set, t.focus.miss))
      (exec (.measurementComplete 10) (twoAwaited .seeking .single)) =
      some ([awaited], some 10, [{ site := 3, disparity := 0, confidence := 0, valid := false }], 1) := by decide +kernel

theorem test_measurement_of_no_frame :
    after (fun t => t) (exec (.measurementComplete 11) (twoAwaited .seeking .single)) =
      some (twoAwaited .seeking .single) := by decide +kernel

/-- Three sites of one group, of which the first is lost. -/
def neighbours : AwaitedMeasurement :=
  { awaited with sites := [site, { site with number := 4 }, { site with number := 5 }] }

def readings3 : List SiteReading :=
  [{ site := 3, valid := false, disparity := 0, confidence := 0 }, { site := 4, valid := true, disparity := 4, confidence := 64 },
   { site := 5, valid := true, disparity := 6, confidence := 64 }]

def banded : Lens :=
  { driving with
    profile := some { lensProfile with chain := [{ ident := identBands, data := [10, 0, 20, 0, 32, 0] }] } }

theorem hyps_MeasurementUpdatesRecordAndState_handover :
    (validOf neighbours readings3 [3, 4]).map (fun p => (p.1.number, p.2)) = [(4, 4)] ∧
      (validSite neighbours readings3 3).isNone = true ∧ (validSite neighbours readings3 5).isSome = true ∧
      ((6 : Int) - 4).natAbs ≤ 2 ∧ 5 ∉ [3, 4] ∧ Lens.reset.state = .absent ∧ banded.state ≠ .absent ∧ banded.state ≠ .probing ∧
      (bandsOf lensProfile.chain = []) ∧
      (banded.profile.map fun p => (bandsOf p.chain).map fun b => (b.first, b.last, b.factor)) = some [(10, 20, 32)] := by
  decide +kernel

theorem test_handover : handoverFrom neighbours readings3 4 [] [3, 4] = ([5, 4], 1) := by decide +kernel

theorem test_band_factor : [conversionFactor banded (some 20), conversionFactor banded (some 21), conversionFactor driving none] =
    [32, 16, 16] := by decide +kernel

/-- A measurement's set of one valid site with a disparity, at position 12. -/
def measured (st : FocusState) (mode : FocusMode) (d : Int) : State :=
  updFocus (fun f =>
    { f with set := [{ site := 3, disparity := d, confidence := 64, valid := true }], measuredPosition := some 12 })
    (tracking st mode)

/-- Disparity 4 at the factor 16 of an unprofiled lens is 64 steps: out of band, and a drive to 12 + 64 held at 20. -/
theorem test_measurement_drives : (fun t : State => (t.focus.error, t.lens.state, t.lens.inFlight))
    (actOnMeasurement awaited (measured .seeking .single 4)) = (some 64, .driving, some 20) := by decide +kernel

/-- Where each clause of the state machine applies: the counts before the measurement, the error and the state after. -/
theorem hyps_MeasurementUpdatesRecordAndState_states :
    (let band := measured .seeking .single 0
     let out := measured .seeking .single 4
     let lost := measured .lost .continuous 4
     let with' (g : Focus → Focus) (s : State) := (trackRecord awaited (updFocus g s)).focus
     (with' (fun f => { f with run := 1 }) band).inBand = true ∧
       (with' id out).inBand = false ∧ out.focus.run + 1 < 2 ∧ out.focus.seek + 1 < 12 ∧
       out.focus.miss < out.focus.lossLimit ∧
       (with' (fun f => { f with seek := 11 }) out).seek + 1 = 12 ∧
       (with' (fun f => { f with set := [] }) out).error = none ∧ (out.focus.lossLimit - 1) + 1 = out.focus.lossLimit ∧
       (with' id lost).error = some 64 ∧ 1 ≤ lost.focus.lossLimit) := by decide +kernel

/-! ## Development (06) -/

def pendingShot : Shot :=
  { shotWith [duty .desk .dev .owed, duty .desk .prv .owed] with
    dev := { absentRend with state := .pending }, prv := { absentRend with state := .pending } }

def queued : State := { holding pendingShot with dev := { DevEngine.reset with queue := [0] } }
def developing : State := startIfIdle queued
def work : Work := developing.dev.work.getD
  { slot := 9, outputs := [], recipe := neutralRecipe, generation := 0, substituted := false, shading := none,
    shadingMissing := false, requeue := false, sizes := [] }
def sized (l : Nat) (quality : Nat) (p : List Nat) : State :=
  { developing with
    dev := { developing.dev with
      work := some { work with sizes := [{ rend := .dev, quality, length := l }, { rend := .prv, quality, length := l }] }
      state := .developing }
    store := { developing.store with
      free := p
      shots := developing.store.shots.map fun x =>
        { x with dev := { x.dev with pages := [70] }, prv := { x.prv with pages := [71] } } } }

theorem hyps_DevelopmentTakesPagesAndCompletes :
    queued.dev.state = .idle ∧ queued.dev.queue = 0 :: [] ∧ shotAt queued 0 = some pendingShot ∧
      developing.dev.state = .developing ∧ developing.dev.work = some work ∧
      (producing developing).map (fun p => p.2) = some .dev ∧ settledSize developing .dev = none ∧
      producing (sized 9 90 []) = none ∧ (settledSize (sized 9 90 []) .dev).map (fun z => z.length) = some 9 ∧
      256 ≤ (List.range 257).length - 1 ∧ RecipeSlot.reset.generation = 0 ∧
      ([1, 2] : List Nat)[1]? = some 2 ∧ 1 < 90 ∧ 256 + 2 ≤ 96 * 1048576 := by decide +kernel

/-- A development whose one output has one duty. -/
def lone : State :=
  startIfIdle
    { holding { shotWith [duty .desk .dev .owed] with dev := { absentRend with state := .pending } } with
      dev := { DevEngine.reset with queue := [0] } }

/-- The same where the output's size is settled and the free page left keeps the floor. -/
def waiting : State :=
  { lone with
    dev := { lone.dev with
      state := .waitSpace
      work := lone.dev.work.map fun w => { w with sizes := [{ rend := .dev, quality := 90, length := 9 }] } }
    store := { lone.store with free := [70], floor := 0 } }

def heldBack : RecipeSlot := { RecipeSlot.reset with generation := 2, previous := some (1, neutralRecipe) }

theorem hyps_DevelopmentTakesPagesAndCompletes_abandon :
    (lone.dev.work.map fun w => (w.slot, w.outputs)) = some (0, [.dev]) ∧ (shotAt lone 0).isSome = true ∧
      (owedDuties .desk lone) = [(0, .dev)] ∧ (owedDuties .cardA lone) = [] ∧ ready.dev.work = none ∧
      0 ∈ queued.dev.queue ∧ 1 ∉ queued.dev.queue ∧ waiting.dev.state = .waitSpace ∧
      waiting.store.free = 70 :: [] ∧ waiting.store.floor ≤ ([] : List Nat).length ∧
      (producing waiting).map (fun p => (p.1.slot, p.2)) = some (0, .dev) ∧
      (settledSize waiting .dev).map (fun z => z.length) = some 9 ∧
      ({ work with requeue := true } : Work).requeue = true ∧ pendingShot.dev.state = .pending ∧
      [heldBack][0]? = some heldBack ∧ generationWanted ready 0 1 = false ∧ generationWanted queued 0 0 = true := by
  decide +kernel

/-- A recipe slot whose current generation a shot waits on, and one no shot waits on. -/
theorem hyps_CompleteImageIsInstalledOrRefused_generation :
    (∃ x ∈ queued.store.shots, x.recipeSlot = 0 ∧ x.recipeGen = 0 ∧ x.dev.state = .pending) ∧
      ({ RecipeSlot.reset with current := some neutralRecipe } : RecipeSlot).current = some neutralRecipe ∧
      queued.dev.bank[0]? = some RecipeSlot.reset ∧ RecipeSlot.reset.current = none ∧ ready.store.shots = [] ∧
      (tracking .seeking .single).focus.state = .seeking ∧ ready.focus.state = .off := by
  refine ⟨⟨pendingShot, ?_⟩, ?_⟩ <;> decide +kernel

/-- Two records of one profile ID, the later of higher revision. -/
def revised : LensProfile := { lensProfile with revision := 2 }

/-- A readout block of two lines of four samples, of which RAW holds line 1. -/
def block : ReadoutBlock :=
  { counter := 9, source := .sensor, close := .normal, laneCount := 1, depth := 12, runCoding := true, truncated := false,
    lines := 2, samples := 4, fill := 5, filledCount := 0, firstFilled := none, lastStored := some 1, rejRange := 0,
    rejOrder := 0, rejIncomplete := 0, embedded := [] }

def packed : Geometry := { geometry with samples := 4 }

def developed : DevSource :=
  { readout := some block, raw := lineBytes packed 1 false [7, 7, 7, 4095], grid := none, recipe := neutralRecipe }

theorem hyps_DevelopmentTakesPagesAndCompletes_source :
    ([lensProfile, revised] : List LensProfile) = [lensProfile] ++ revised :: [] ∧ revised.ident = 4 ∧ revised.level ≤ 2 ∧
      lensProfile.revision < revised.revision ∧
      (∀ l ∈ ([(1, false, [7, 7, 7, 4095])] : List (Nat × Bool × List Nat)),
        l.1 < 65536 ∧ l.2.2.length = packed.samples ∧ ∀ v ∈ l.2.2, v < 2 ^ packed.depth) ∧
      1 ≤ packed.depth ∧ packed.depth ≤ 16 ∧ developed.readout = some block ∧
      readLines block.depth block.samples block.lines developed.raw = [] ++ (1, [7, 7, 7, 4095]) :: [] ∧ 1 < block.lines ∧
      (∀ q ∈ readLines block.depth block.samples block.lines developed.raw, q.1 ≠ 0) ∧
      (frameLines block developed.raw)[1]?.bind (fun samples => samples[3]?) = some 4095 ∧ 2 ≤ block.lines ∧ 2 ≤ block.samples ∧
      (settledSize (sized 9 90 []) .dev).isSome = true ∧ (shotAt (sized 9 90 []) work.slot).isSome = true := by
  decide +kernel

/-- A slot that is empty, and a shot bound to generation 0 of it. -/
theorem hyps_DevelopmentTakesPagesAndCompletes_empty :
    RecipeSlot.reset.current = none ∧ RecipeSlot.reset.generation = 0 ∧ RecipeSlot.reset.previous = none ∧
      chooseRecipe RecipeSlot.reset 0 = { recipe := neutralRecipe, generation := 0, substituted := true } := by
  decide +kernel

/-- A shot under SUBJECT whose record has a centroid, and the development block of its PRV. -/
def subjectWork : Work := { work with recipe := { neutralRecipe with subject := true } }
def shotAbout (centroid : Option (Nat × Nat)) : Shot :=
  { pendingShot with
    focus := some
      { state := .locked, measuredFrame := none, inBand := true, error := none, position := none, sites := [], centroid } }
def blockOf (r : Rendition) (w : Work) (x : Shot) (samples lines : Nat) : List Nat :=
  let b := devBlockOf w x samples lines { rend := r, quality := 90, length := 9 }
  [b.cropLeft, b.cropTop, b.cropWidth, b.cropHeight, b.width, b.height]

theorem hyps_DevelopmentTakesPagesAndCompletes_block :
    subjectWork.recipe.subject = true ∧ work.recipe.subject = false ∧
      (shotAbout (some (2179, 1800))).focus.bind (fun k => k.centroid) = some (2179, 1800) ∧ pendingShot.focus = none ∧
      (shotAbout none).focus.bind (fun k => k.centroid) = none ∧ work.recipe.half = false ∧
      2 * (6016 / 3) = 4010 ∧ 2 * (4000 / 3) = 2666 ∧ 4010 / 2 ≤ 2179 ∧ 2179 - 4010 / 2 + 4010 ≤ 6016 ∧
      6016 < 5900 - 4010 / 2 + 4010 ∧ 300 < 2666 / 2 := by decide +kernel

/-- R116's worked values: about a centroid, moved inward at two edges, and centred. -/
theorem test_crop_window :
    [(some (2179, 1800)), (some (5900, 300)), none].map (fun c => blockOf .prv subjectWork (shotAbout c) 6016 4000) =
      [[174, 467, 4010, 2666, 1024, 680], [2006, 0, 4010, 2666, 1024, 680], [1003, 667, 4010, 2666, 1024, 680]] := by
  decide +kernel

/-- DEV at HALF rounds down, and an upright PRV has its long edge in the height. -/
theorem test_output_sizes :
    blockOf .dev { work with recipe := { neutralRecipe with half := true } } pendingShot 6017 4001 =
        [0, 0, 0, 0, 3008, 2000] ∧
      blockOf .prv work pendingShot 4000 6016 = [667, 1003, 2666, 4010, 680, 1024] := by decide +kernel

/-- RAW lacks line 0, which is of the fill value. -/
theorem test_raw_read_back : frameLines block developed.raw = [[5, 5, 5, 5], [7, 7, 7, 4095]] := by decide +kernel

/-- Where 13 lines of 17 samples each stand on a point of the grid, the last sample has the last gain. -/
theorem test_gain_on_a_point : gainAt (List.range 221) 13 17 12 16 = 220 := by
  simp [gainAt, gridPlace, gridRows, gridColumns, nearGains, gridNear, gridGain, Nat.mod_one]

/-- The last duty skipped: the development is abandoned, its output released and the shot retired. -/
theorem test_abandonment : after (fun t => (t.dev.state, t.dev.counters.abandoned, t.store.shots.length))
    (exec (.skip .desk) (put .desk (cell codeSKIP [1, 1]) lone)) = some (.idle, 1, 0) := by decide +kernel

theorem test_retry_grants : (retryWait waiting).dev.state = .developing ∧ (retryWait waiting).store.free = [] ∧
    (retryWait waiting).store.shots.map (fun x => (x.dev.pages, x.dev.length)) = [([70], 9)] := by decide +kernel

theorem test_dev_waits_for_space :
    after (fun t => t.dev.state) (exec (.devPageRequest [9]) developing) = some .waitSpace := by decide +kernel

theorem test_development_completes :
    after (fun t => (t.dev.state, t.dev.counters.completed, t.store.shots.map fun x => x.dev.state))
      (exec .developmentComplete (sized 9 90 [])) = some (.idle, 1, [.ready]) := by decide +kernel

/-! ## Cards (07) -/

def xtnt (fields : List Nat) : Cell := cell codeXTNT (0 :: fields)
def fileRecord : Placement := { card := .a, rend := .raw, outcome := .file, number := 1, length := 3, runs := [{ start := 0, count := 1 }] }
def stalledCard : Card := { readyCard with state := .stalled, log := List.replicate 31 fileRecord }

theorem hyps_ExtentsLogAndPowerOfASlot :
    slotOfCode 0 = some .a ∧ slotOfCode 1 = some .b ∧
      FrontInRun .host codeXTNT (xtnt [11, 89]) (put .host (xtnt [11, 89]) (cardWith readyCard ready)) ∧
      (xtnt [11, 89]).fields = 0 :: (([{ start := 11, count := 89 }] : List Run).map fun r => [r.start, r.count]).flatten ∧
      11 + 89 ≤ readyCard.capacity.getD 0 ∧ ready.cardA.state = .empty ∧ readyCard.state = .ready ∧
      ({ readyCard with state := .full } : Card).state = .full ∧ (xtnt [1]).fields = 0 :: [1] ∧
      FrontInRun .host codePLRD (cell codePLRD [0, 32]) (put .host (cell codePLRD [0, 32]) (cardWith stalledCard ready)) ∧
      (stalledCard.log.drop 1).length ≤ 30 ∧ 30 < (stalledCard.log.drop 0).length ∧
      FrontInRun .host codeCPWR (cell codeCPWR [0, 1]) (put .host (cell codeCPWR [0, 1])
        (cardWith { Card.reset with state := .off, power := false } ready)) ∧
      (cell codeCPWR [0, 0]).fields = [0, 0] ∧ writingCard.write = some write ∧ readyCard.write = none ∧
      (cell codePLRD [0, 32]).fields = [0, 32] ∧ (cell codeCPWR [0, 2]).fields = [0, 2] := by
  unfold FrontInRun Front; decide +kernel

/-- A slot that is not listed, and a CPWR without a setting and with one that is not listed. -/
theorem hyps_ExtentsLogAndPowerOfASlot_unlisted :
    FrontInRun .host codeXTNT (cell codeXTNT [2, 0, 1]) (put .host (cell codeXTNT [2, 0, 1]) ready) ∧
      (cell codeXTNT [2, 0, 1]).fields = 2 :: [0, 1] ∧ 2 ≤ 2 ∧
      FrontInRun .host codePLRD (cell codePLRD [2, 1]) (put .host (cell codePLRD [2, 1]) ready) ∧
      (cell codePLRD [2, 1]).fields = [2, 1] ∧
      FrontInRun .host codeCPWR (cell codeCPWR [2, 1]) (put .host (cell codeCPWR [2, 1]) ready) ∧
      (cell codeCPWR [2, 1]).fields = 2 :: [1] ∧ (cell codeCPWR [0]).fields = [0] ∧
      FrontInRun .host codeCPWR (cell codeCPWR [0, 2]) (put .host (cell codeCPWR [0, 2]) ready) := by
  unfold FrontInRun Front; decide +kernel

theorem test_xtnt_touching : hostStatus (exec (.xtnt .host) (put .host (xtnt [11, 89]) (cardWith readyCard ready))) = some .done := by
  decide +kernel

theorem test_xtnt_overlap : hostStatus (exec (.xtnt .host) (put .host (xtnt [10, 5]) (cardWith readyCard ready))) = some .badarg := by
  decide +kernel

theorem test_plrd_unstalls : after (fun t => (t.cardA.state, t.cardA.log.length))
    (exec (.plrd .host) (put .host (cell codePLRD [0, 1]) (cardWith stalledCard ready))) = some (.ready, 30) := by decide +kernel

theorem test_cpwr_off_owes_again : after (fun t => (t.cardA.state, t.store.shots.map fun x => x.duties.map fun d => d.state))
    (exec (.cpwr .host) (put .host (cell codeCPWR [0, 0]) (cardWith writingCard (holding writingShot)))) =
      some (.off, [[.owed]]) := by decide +kernel

theorem hyps_CardsMountProtectAndFail :
    cardDetect ready .a = false ∧ cardDetect { ready with pins := { ready.pins with detectA := true } } .a = true ∧
      ready.cardA.power = true ∧ ready.cardA.state = .empty ∧ ({ Card.reset with state := .mounting } : Card).state = .mounting ∧
      (1 : Word32) ≠ 0 ∧ cardProtect ready .a = false ∧ cardProtect { ready with pins := { ready.pins with protectA := true } } .a = true ∧
      ({ Card.reset with mountTimer := some 1 } : Card).mountTimer = some 1 ∧ writingCard.state = .writing ∧
      writingCard.write = some write ∧ ({ readyCard with state := .writeProtected } : Card).state = .writeProtected ∧
      30 < stalledCard.log.length ∧ readyCard.write = none ∧ ready.cardMode = .independent := by decide +kernel

/-- OVERFLOW mode with a card in slot A. -/
def overflowing (c : Card) (s : State) : State := { cardWith c s with cardMode := .overflow }

theorem hyps_CardsMountProtectAndFail_redirect :
    (overflowing readyCard ready).cardMode = .overflow ∧ (overflowing readyCard ready).cardA.state ≠ .full ∧
      (overflowing { readyCard with state := .fault } ready).cardA.state = .fault ∧
      redirecting (overflowing readyCard ready) = false := by decide +kernel

theorem test_fault_knows_no_capacity : after (fun t => (t.cardA.state, t.cardA.capacity))
    (exec (.overCurrent .a) (cardWith readyCard ready)) = some (.fault, none) := by decide +kernel

theorem test_fault_redirects : after (fun t => t.store.shots.map fun x => x.duties.map fun y => (y.dest, y.state, y.reason))
    (exec (.overCurrent .a) (overflowing readyCard (holding (shotWith [duty .cardA .raw .owed])))) =
      some [[(.cardA, .waived, some .redirected), (.cardB, .owed, none)]] := by decide +kernel

theorem test_mount : after (fun t => (t.cardA.state, t.cardA.capacity))
    (exec (.mountAnswer .a (some 100)) (cardWith { Card.reset with state := .mounting, mountTimer := some 1 } ready)) =
      some (.mounted, some 100) := by decide +kernel

theorem test_mount_capacity_zero : after (fun t => t.cardA.state)
    (exec (.mountAnswer .a (some 0)) (cardWith { Card.reset with state := .mounting, mountTimer := some 1 } ready)) =
      some .fault := by decide +kernel

def cardShot : Shot := shotWith [duty .cardA .raw .owed]

theorem hyps_CardWritesAreRecorded :
    (cardWith readyCard (holding cardShot)).cardA.state = .ready ∧
      (eligible .cardA (cardWith readyCard (holding cardShot))).map (fun p => (p.1.slot, p.2)) = some (0, .raw) ∧
      eligible .cardA ready = none ∧ (fitRuns 2 8 readyCard.extents).isSome = true ∧ fitRuns 4 8 readyCard.extents = none ∧
      writingCard.write = some write ∧ write.done < blockCount write.plan ∧ write.done + 1 < blockCount write.plan ∧
      blockCount ({ write with done := 1 } : ActiveWrite).plan ≤ 1 + 1 ∧ write.attempt = 1 ∧
      ({ write with attempt := 2 } : ActiveWrite).attempt ≠ 1 ∧ write.timer = some 1 ∧
      fitRuns (blocksFor write.length) 8 (readyCard.extents.drop 1) = some [{ start := 9, count := 2 }] ∧
      fitRuns (blocksFor write.length) 8 (readyCard.extents.drop 2) = none ∧
      (1 ≤ blockCount write.plan ∧ cutRuns 1 write.plan = [{ start := 0, count := 1 }]) ∧
      reportedWrite (cardWith writingCard ready) { slot := .a, block := 0 } = some write ∧
      reportedWrite (cardWith { writingCard with write := some { write with done := 1 } } ready) { slot := .a, block := 9 } =
        some { write with done := 1 } ∧
      30 < { stalledCard with log := List.replicate 30 fileRecord }.log.length + 1 ∧
      dropBlocks 3 readyCard.extents = [] ∧ dropBlocks 2 readyCard.extents ≠ [] := by decide +kernel

/-- A report of another block than the one sent last: that of a write stopped before, say. -/
theorem test_late_report_discarded :
    after (fun t => t.cardA) (exec (.blockComplete { slot := .a, block := 5 }) (cardWith writingCard (holding writingShot))) =
      some writingCard := by decide +kernel

def dutyStates (s : State) : List DutyState := s.store.shots.flatMap fun x => x.duties.map fun d => d.state

/-- A shot with a duty besides that of the write, so that it stays in the table. -/
def writingTwice : Shot := shotWith [duty .cardA .raw .active, duty .desk .raw .owed]

/-- A second failed block, and the write timer: the duty of the write is FAILED, not left ACTIVE. -/
theorem test_second_error_fails_duty : after (fun t => (t.cardA.state, dutyStates t))
    (exec (.blockFailed { slot := .a, block := 0 })
      (cardWith { writingCard with write := some { write with attempt := 2 } } (holding writingTwice))) =
      some (.fault, [.failed, .owed]) := by decide +kernel

theorem test_write_timeout_fails_duty : after (fun t => (t.cardA.state, dutyStates t))
    (exec (.writeTimerExpiry .a) (cardWith writingCard (holding writingTwice))) = some (.fault, [.failed, .owed]) := by
  decide +kernel

theorem test_last_block : after (fun t => (t.cardA.state, t.cardA.extents, t.cardA.log.map fun p => p.outcome))
    (exec (.blockComplete { slot := .a, block := 9 }) (cardWith { writingCard with write := some { write with done := 1 } } (holding writingShot))) =
      some (.ready, [{ start := 10, count := 1 }], [.file]) := by decide +kernel

theorem test_waiver_stops_write : after (fun t => (t.cardA.state, t.cardA.log.map (fun p => p.outcome), t.cardA.counters.voids))
    (exec (.waiv .host) (put .host (cell codeWAIV [1, destCode .cardA, rendCode .raw]) (cardWith writingCard (holding writingShot)))) =
      some (.ready, [.void], 1) := by decide +kernel

theorem test_first_error : after (fun t => (t.cardA.state, t.cardA.write.map (fun w => (w.attempt, w.plan)),
      t.cardA.log.map fun p => p.runs)) (exec (.blockFailed { slot := .a, block := 0 }) (cardWith writingCard (holding writingShot))) =
    some (.writing, some (2, [{ start := 9, count := 2 }]), [[{ start := 0, count := 1 }]]) := by decide +kernel

/-! ## Tether (08) -/

def linkedTether : Tether := { Tether.reset with link := .linked, negTimer := some 1 }
def linked (s : State) : State := { s with tether := linkedTether, pins := { s.pins with etherUp := true } }
def echoing (s : State) : State := { s with tether := { Tether.reset with link := .echo }, pins := { s.pins with etherUp := true } }

theorem hyps_TetherLinksEchoesAndResets :
    TetherLegal (linked ready).tether ∧ TetherLegal (bound ready).tether ∧ TetherLegal (echoing ready).tether ∧
      ready.pins.etherUp = false ∧ (linked ready).pins.etherUp = true ∧ ready.tether.link = .down ∧
      ready.tether.settings.power = true ∧ linkedTether.negTimer = some 1 ∧ boundTether.silenceTimer = some 1 ∧
      FrontInRun .desk codeMIRR (cell codeMIRR [1]) (put .desk (cell codeMIRR [1]) (bound ready)) ∧
      FrontInRun .host codeECHO (cell codeECHO [1]) (put .host (cell codeECHO [1]) (bound ready)) ∧
      FrontInRun .host codeTRST (cell codeTRST []) (put .host (cell codeTRST []) (bound ready)) := by
  unfold FrontInRun Front TetherLegal; decide +kernel

/-- A transfer whose duty's expiry time the time base has reached, has not, and does not have. -/
theorem hyps_TetherLinksEchoesAndResets_transfer :
    (sending (holding sendingShot)).tether.transfer = some transfer ∧ TetherLegal (sending (holding sendingShot)).tether ∧
      ((shotAt (holding sendingShot) transfer.slot).bind fun z => dutyOf z .desk transfer.rend) =
        some { duty .desk .raw .active with expiry := some 5 } ∧ (5 : Nat) ≤ 5 ∧ 4 < 5 ∧
      (duty .desk .raw .active).expiry = none ∧ boundTether.desk = some 1 ∧ (cell codeECHO [2]).fields = [2] ∧
      FrontInRun .host codeECHO (cell codeECHO [2]) (put .host (cell codeECHO [2]) ready) := by
  unfold TetherLegal FrontInRun Front; decide +kernel

/-- An ECHO without an argument, and one with a byte too many, which is no number. -/
theorem hyps_TetherLinksEchoesAndResets_echo :
    FrontInRun .host codeECHO (cell codeECHO []) (put .host (cell codeECHO []) ready) ∧
      (∀ v, (cell codeECHO []).fields ≠ [v]) ∧ ({ cell codeECHO [1] with argLen := 2 } : Cell).fields = [2 ^ 64] := by
  refine ⟨⟨⟨rfl, rfl⟩, rfl⟩, fun v h => ?_, by decide +kernel⟩
  have e : (cell codeECHO []).fields = [] := by decide +kernel
  rw [e] at h
  cases h

theorem test_silence_ends_binding : after (fun t => (t.tether.link, t.tether.result, t.tether.desk))
    (exec .silenceTimerExpiry (bound ready)) = some (.linked, .lost, none) := by decide +kernel

theorem test_binding_end_expires_duty : after (fun t => (t.tether.transfer, t.store.shots.length))
    (exec .silenceTimerExpiry
      (let s := sending (holding sendingShot)
       { s with control := { s.control with timeBase := 4 } })) = some (none, 0) := by decide +kernel

/-- ECHO on and TRST in BOUND: the transfer's duty is OWED again. -/
theorem test_echo_returns_duty : after (fun t => (t.tether.link, t.tether.window, dutyStates t))
    (exec (.echo .host) (put .host (cell codeECHO [1]) (sending (holding sendingShot)))) = some (.echo, 0, [.owed]) := by
  decide +kernel

theorem test_tether_reset_returns_duty : after (fun t => (t.tether.link, t.tether.window, dutyStates t))
    (exec (.trst .host)
      (let s := put .host (cell codeTRST []) (sending (holding sendingShot))
       { s with pins := { s.pins with etherUp := true } })) = some (.linked, 0, [.owed]) := by decide +kernel

theorem test_result_codes : ([.notBound, .bound .windowed, .bound .basic, .bound .preview, .refused, .timeout, .lost].map
    negResultCode) = [0, 1, 2, 3, 4, 5, 6] := by decide +kernel

/-- Link, link up, power, station, frame type, desk, mode, window and result, in this order. -/
theorem test_tether_status : (tetherBytes (tetherStatus (bound State.reset))).take 22 =
    [2, 1, 1, 0x02, 0, 0x5A, 0, 0x06, 0x40, 0x12, 0x9B, 1, 0, 0, 0, 0, 0, 1, 1, 16, 1, 2] := by decide +kernel

theorem test_echo_in_down :
    after (fun t => t.control.ready.head?.map fun c => (c.status, c.args.take 3))
      (exec (.echo .host) (put .host (cell codeECHO [1]) ready)) = some (some (.state, [0, 0, 1])) := by decide +kernel

theorem hyps_TetherFramesAreHandledByLinkState :
    takesFrame (bound ready) envelope = true ∧ takesFrame ready envelope = false ∧ takesFrame (echoing ready) envelope = true ∧
      (echoing ready).tether.link = .echo ∧ takesFrame (linked ready) { envelope with dst := 0xFFFFFFFFFFFF } = true ∧
      (bound ready).tether.desk = some envelope.src ∧ (bound ready).tether.desk ≠ some 2 ∧
      rendOfCode (2 : Byte).toNat = some .prv ∧ 3 ≤ (3 : Byte).toNat ∧
      (sending ready).tether.transfer = some transfer ∧ transfer.number = (1 : Word32).toNat ∧ transfer.acked < 1408 ∧
      1408 ≤ transfer.highest ∧ 1408 % 1408 = 0 ∧ ({ transfer with phase := .announced } : Transfer).phase = .announced ∧
      1408 % 1408 = 0 ∧ (3000 : Word32).toNat = transfer.length ∧ TetherLegal (linked ready).tether ∧
      (3 : Byte).getLsbD 1 = true ∧ Tether.reset.settings.preferences = [] ++ .windowed :: [.basic] ∧
      (4 : Byte).getLsbD 0 = false ∧ 1 ≤ (16 : Byte).toNat ∧ (16 : Byte).toNat ≤ 16 ∧ 16 < (17 : Byte).toNat := by
  unfold TetherLegal; decide +kernel

theorem test_offer_binds : after (fun t => (t.tether.link, t.tether.mode, t.tether.window))
    (exec (.offer envelope 2 16) (linked ready)) = some (.bound, some .basic, 1) := by decide +kernel

theorem test_offer_answered : after (fun t => t.tether.ready.map fun f => (f.dst, bodyBytes f.body))
    (exec (.offer envelope 2 16) (linked ready)) = some [(1, [2, 0, 2, 1])] := by decide +kernel

theorem test_offer_refused : after (fun t => (t.tether.link, t.tether.result)) (exec (.offer envelope 3 17) (linked ready)) =
    some (.linked, .refused) := by decide +kernel

theorem test_ack_advances : after (fun t => t.tether.transfer.map fun x => (x.acked, x.timer))
    (exec (.ack envelope 1 0 1408) (sending (holding sendingShot))) = some (some (1408, none)) := by decide +kernel

def withTransfer (t : Transfer) : State := { ready with tether := { boundTether with transfer := some t } }

theorem hyps_TransfersAreAnnouncedSentAndRepeated :
    (bound (holding owedDesk)).tether.link = .bound ∧ (bound (holding owedDesk)).tether.transfer = none ∧
      (transferQueue (bound (holding owedDesk))).map (fun q => (q.1.slot, q.2)) = [(0, .raw)] ∧
      (transferQueue (bound (holding owedDesk))).all (qualifies (bound (holding owedDesk))) = true ∧
      transferQueue (bound ready) = [] ∧ ready.tether.link = .down ∧ (bound ready).tether.ready = [] ∧
      (withTransfer { transfer with announceReady := true, phase := .announced }).tether.desk = some 1 ∧
      transfer.announceReady = false ∧ transfer.phase = .sending ∧ unacknowledged transfer < 16 ∧
      transfer.next < transfer.length ∧ unacknowledged { transfer with next := 16 * 1408 } = 16 ∧
      transferQueue (bound (holding owedDesk)) = [] ++ (owedDesk, .raw) :: [] ∧
      qualifies { bound (holding owedDesk) with tether := { boundTether with mode := some .preview } } (owedDesk, .raw) = false ∧
      ({ boundTether with mirror := some { sequence := 1, image := (live 9 0).image, total := 9, sent := 0 } } :
          Tether).mirror =
        some { sequence := 1, image := (live 9 0).image, total := 9, sent := 0 } ∧
      (bound ready).tether.mirror = none ∧ transfer.timer = some 1 ∧ transfer.expiries < 2 ∧
      2 ≤ ({ transfer with expiries := 2 } : Transfer).expiries ∧ 1408 * 0 < 1 ∧ 1408 ≤ 1408 * (0 + 1) := by decide +kernel

def outputBlock : DevBlock :=
  { slot := 0, substituted := false, shadingApplied := false, shadingMissing := false, half := false, subject := false
    generation := 0, qualityAsked := 5, qualityUsed := 5, width := 4, height := 2, cropLeft := 0, cropTop := 0
    cropWidth := 0, cropHeight := 0 }

/-- A RAW header with its readout block, a DEV header with its development block, and the shot of a transfer. -/
theorem hyps_TransfersAreAnnouncedSentAndRepeated_header :
    ({ owedDesk with readout := some block } : Shot).readout = some block ∧ block.embedded.length ≤ 256 ∧
      Rendition.dev ≠ Rendition.raw ∧
      (rendOf { owedDesk with dev := { absentRend with content := .encoded outputBlock developed 0 } } .dev).content =
        .encoded outputBlock developed 0 ∧
      shotAt (holding owedDesk) transfer.slot = some owedDesk := by decide +kernel

theorem test_header_lengths :
    (headerBytes { owedDesk with readout := some block } .raw).take 4 = [70, 2, 0, 2] ∧
      (headerBytes { owedDesk with dev := { absentRend with content := .encoded outputBlock developed 0 } } .dev).take 4 =
        [70, 1, 1, 2] := by decide +kernel

theorem test_third_expiry : after (fun t => (t.tether.link, t.tether.result))
    (exec .ackTimerExpiry (withTransfer { transfer with expiries := 2 })) = some (.linked, .lost) := by decide +kernel

/-! ## The idle tick -/

/-- A timer, a duty, the part reset and a cell that are due after the next microsecond. -/
def dueSoon : State :=
  let s := put .host idntCell (bound (holding expiringShot))
  { s with control := { s.control with timeBase := 4, resetAwaited := true } }

theorem hyps_IdleStepPassesOneMicrosecond_due :
    dueSoon.pending = [] ∧ (dutyOf expiringShot .desk .raw).map (fun y => (y.state, y.expiry)) = some (.owed, some 5) ∧
      dueSoon.control.resetAwaited = true := by decide +kernel

theorem test_idle_puts_up_what_is_due :
    after (fun t => t.pending) (step dueSoon) = some [.silenceTimerExpiry, .dutyExpiry 1 .raw, .partReset, .idnt .host] := by
  decide +kernel

/-! ## Invariants -/

theorem hyps_Invariants :
    Bounded State.reset ∧ CaptureLegal (armed .armed) ∧ TetherLegal (bound ready).tether ∧ LensLegal driving := by
  refine ⟨⟨by decide, by decide, Nat.zero_le _, by decide, ?_, ?_⟩, ?_, ?_, ?_⟩
  · exact ⟨by decide, by decide, by decide, Nat.zero_le _⟩
  · exact ⟨by decide, by decide, by decide, Nat.zero_le _⟩
  · unfold CaptureLegal; decide +kernel
  · unfold TetherLegal; decide +kernel
  · exact ⟨by decide, by decide, by decide, by decide, by decide, by decide, by decide, by decide, trivial⟩

theorem hyps_DeskCommandsStayWithinTheirReach : Instr.pull .desk ∈ executions .desk := by decide +kernel

end Sys2Proof.Tests
end

section
/-! PROOFS. The two commands of the channel unit that read its latches and set its mask: EVRD (R181) and EVMK (R182). -/

namespace Sys2Proof.Machine

/-! ## What an answer and a taken cell leave of the channels -/

theorem chan_taken_ne {ch ch' : Channel} (h : ch' ≠ ch) (s : State) : chan (taken ch s) ch' = chan s ch' :=
  chan_updChan_ne h _ s

theorem latches_taken (ch : Channel) (s : State) : (chan (taken ch s) ch).latches = (chan s ch).latches := by
  simp [taken]

theorem mask_taken (ch : Channel) (s : State) : (chan (taken ch s) ch).mask = (chan s ch).mask := by
  simp [taken]

/-- R180: whether a NOTICE may be sent is a matter of the lines and the tether, which no change of a channel touches. -/
theorem canNotify_updChan (ch ch' : Channel) (f : Chan → Chan) (s : State) :
    canNotify (updChan ch f s) ch' = canNotify s ch' := by
  cases ch <;> cases ch' <;> rfl

theorem Emits.canNotify {s t : State} (h : Emits s t) (ch : Channel) :
    Machine.canNotify t ch = Machine.canNotify s ch := by
  cases ch with
  | host => simp only [Machine.canNotify, h.pins]
  | desk => rw [Machine.canNotify, h.tether, Machine.canNotify]

/-! ## Events offered to a channel (R179, R180) -/

/-- R179: an event that is not masked is latched. -/
theorem latched_setLatch {e : Event} {c : Chan} (hbit : latchBit e < 56) (hmask : unmasked c e = true) :
    latched (setLatch e c) e = true := by
  simp only [setLatch, hmask, if_true, latched, BitVec.getLsbD_or, BitVec.getLsbD_ofNat, hbit,
    Nat.testBit_two_pow_self, decide_true, Bool.and_self, Bool.or_true]

/-- R180: where a NOTICE is due and may be sent, the offer latches the event and sets the notice flag. -/
theorem chan_offerEvent_due {e : Event} {ch : Channel} {s : State} (hdue : noticeDue e (chan s ch) = true)
    (hsend : canNotify s ch = true) :
    chan (offerEvent e ch s) ch = { setLatch e (chan s ch) with notice := true } := by
  simp [offerEvent, hdue, hsend, notify, chan_sendCells]

/-- R180: on a channel with no latch set and its notice flag clear, an unmasked event makes a NOTICE due. -/
theorem noticeDue_of_clear {e : Event} {c : Chan} (hmask : unmasked c e = true) (hlatches : c.latches = 0)
    (hnotice : c.notice = false) : noticeDue e c = true := by
  simp [noticeDue, hmask, latched, hlatches, hnotice]

/-! ## EVRD (R181) -/

/-- EVRD in front passes every check before the owner's, on either channel and in either operating state. -/
theorem exec_evrd_front {ch : Channel} {c : Cell} {s : State} (h : Front ch codeEVRD c s) :
    exec (.evrd ch) s =
      .next (answer ch c .done (.bytes (latchedBytes (chan s ch).latches)) (updChan ch clearLatches (taken ch s))) := by
  have hperm : permittedOn ⟨codeEVRD, true, true, true⟩ ch = true := by cases ch <;> rfl
  change execEvrd ch s = _
  rw [execEvrd, runCode_front h permissionOf_EVRD hperm (.inr rfl), latches_taken]

/-- The latched set is read back from its 7 bytes. -/
theorem readLe_latchedBytes (latches : BitVec 56) : readLe (latchedBytes latches) = latches.toNat :=
  readLe_le 7 _ latches.isLt

/-- Settles O8: the answer leaves both channels as the clearing left them, so an event raised afterwards finds no latch
and no notice flag. -/
theorem evrdReadsAndClearsLatches : Obligations.EvrdReadsAndClearsLatches := by
  intro ch c s hfront
  refine ⟨_, exec_evrd_front hfront, rfl, ?_⟩
  generalize ht : answer ch c .done (.bytes (latchedBytes (chan s ch).latches))
    (updChan ch clearLatches (taken ch s)) = t
  have hchan : chan t ch = clearLatches (chan (taken ch s) ch) := by rw [← ht, chan_answer, chan_updChan]
  have hother : ∀ ch', ch' ≠ ch → chan t ch' = chan s ch' := fun ch' hne => by
    rw [← ht, chan_answer, chan_updChan_ne hne, chan_taken_ne hne]
  have hlatches : (chan t ch).latches = 0 := by rw [hchan]; rfl
  have hnotice : (chan t ch).notice = false := by rw [hchan]; rfl
  refine ⟨hlatches, hnotice, hother, readLe_latchedBytes _, fun hempty => by rw [hempty]; rfl, ?_⟩
  intro e hbit hmask hsend
  have hmask_t : unmasked (chan t ch) e = true := by
    rw [hchan]
    simpa only [unmasked, clearLatches, mask_taken] using hmask
  have hsend_t : canNotify t ch = true := by
    rw [← ht, (emits_answer ch c _ _ _).canNotify, canNotify_updChan, taken, canNotify_updChan, hsend]
  rw [chan_offerEvent_due (noticeDue_of_clear hmask_t hlatches hnotice) hsend_t]
  exact ⟨rfl, latched_setLatch hbit hmask_t⟩

/-! ## EVMK (R182) -/

/-- The events offered to a channel are the codes below 27 on the host channel, below 25 on the desk channel. -/
theorem maskAllowed_iff {ch : Channel} {m : Nat} :
    maskAllowed ch m = true ↔ (ch = .host ∧ m < 2 ^ 27) ∨ (ch = .desk ∧ m < 2 ^ 25) := by
  cases ch <;> simp [maskAllowed]

theorem maskAllowed_eq_false_iff {ch : Channel} {m : Nat} :
    maskAllowed ch m = false ↔ (ch = .host ∧ 2 ^ 27 ≤ m) ∨ (ch = .desk ∧ 2 ^ 25 ≤ m) := by
  cases ch <;> simp [maskAllowed]

theorem lt_of_maskAllowed {ch : Channel} {m : Nat} (h : maskAllowed ch m = true) : m < 2 ^ 32 := by
  obtain ⟨-, hm⟩ | ⟨-, hm⟩ := maskAllowed_iff.1 h <;> omega

/-- EVMK's argument is a mask of 4 bytes (10 section 10.2). -/
theorem argLayout_EVMK (first : Nat) : argLayout codeEVMK first = onlyFields [4] := by
  have hconf : (codeEVMK == codeCONF) = false := by decide +kernel
  have hload : (codeEVMK == codeLOAD) = false := by decide +kernel
  have hrow : ((codeLayouts.find? fun p => p.1 == codeEVMK).map fun p => p.2) = some (onlyFields [4]) := by
    decide +kernel
  simp only [argLayout, hconf, hload, hrow, Bool.false_eq_true, if_false, Option.getD_some]

/-- A layout of one number reads that many bytes as the number. -/
theorem readArgs_oneNumber {w : Nat} {bytes : List Byte} (hw : 0 < w) (hlen : bytes.length = w) :
    readArgs (onlyFields [w]) bytes = some ([readLe bytes], []) := by
  have htake : takeLe w bytes = some (readLe bytes, []) := by simpa using takeLe_append hlen []
  cases bytes with
  | nil => simp at hlen; omega
  | cons b rest => simp [readArgs, onlyFields, takeFields, takeField, htake]

theorem fields_evmk_empty {c : Cell} (hcode : c.code = codeEVMK) (hlen : c.argLen = 0) : c.fields = [] := by
  simp [Cell.fields, Cell.arguments, Cell.argBytes, hcode, hlen, argLayout_EVMK, readArgs, onlyFields, takeFields]

theorem fields_evmk_mask {c : Cell} (hcode : c.code = codeEVMK) (hargs : c.args.length = 48) (hlen : c.argLen = 4) :
    c.fields = [readLe (c.args.take 4)] := by
  have hbytes : c.argBytes = c.args.take 4 := by simp [Cell.argBytes, hlen]
  have hread : readArgs (onlyFields [4]) (c.args.take 4) = some ([readLe (c.args.take 4)], []) :=
    readArgs_oneNumber (by decide) (by simp [hargs])
  simp [Cell.fields, Cell.arguments, hcode, argLayout_EVMK, hbytes, hread]

section
variable {ch : Channel} {c : Cell} {s : State}

/-- EVMK in front passes every check before the owner's, on either channel and in either operating state. -/
theorem runCode_evmk_front (h : Front ch codeEVMK c s) (act : Cell → State → State) :
    runCode ch codeEVMK act s = act c (taken ch s) :=
  runCode_front h permissionOf_EVMK (by cases ch <;> rfl) (.inr rfl) act

theorem exec_evmk_read (h : Front ch codeEVMK c s) (hf : c.fields = []) :
    exec (.evmk ch) s = .next (answer ch c .done (.bytes (le 4 (chan s ch).mask.toNat)) (taken ch s)) := by
  change execEvmk ch s = _
  simp only [execEvmk, runCode_evmk_front h, hf, answerMask, mask_taken]

theorem exec_evmk_refused {m : Nat} (h : Front ch codeEVMK c s) (hf : c.fields = [m])
    (hm : maskAllowed ch m = false) : exec (.evmk ch) s = .next (answerBare ch c .badarg (taken ch s)) := by
  change execEvmk ch s = _
  simp only [execEvmk, runCode_evmk_front h, hf, hm, Bool.false_eq_true, if_false]

/-- The mask answered is the one installed: a mask that is allowed fits its 32 bits. -/
theorem exec_evmk_replaced {m : Nat} (h : Front ch codeEVMK c s) (hf : c.fields = [m])
    (hm : maskAllowed ch m = true) :
    exec (.evmk ch) s =
      .next (answer ch c .done (.bytes (le 4 m))
        (updChan ch (fun k => { k with mask := BitVec.ofNat 32 m }) (taken ch s))) := by
  have hfits : (BitVec.ofNat 32 m).toNat = m := by
    rw [BitVec.toNat_ofNat, Nat.mod_eq_of_lt (lt_of_maskAllowed hm)]
  change execEvmk ch s = _
  simp only [execEvmk, runCode_evmk_front h, hf, hm, if_true, answerMask, chan_updChan, hfits]

end

/-- Under a mask installed from a number, the number's bit says whether an event is latched. -/
theorem unmasked_ofNat (m : Nat) (c : Chan) (e : Event) :
    unmasked { c with mask := BitVec.ofNat 32 m } e = m.testBit (eventCode e) := by
  have hcode : eventCode e < 32 := by cases e <;> simp [eventCode]
  simp only [unmasked, BitVec.getLsbD_ofNat, hcode, decide_true, Bool.true_and]

/-- Settles O9: by what the cell carries, no argument, a mask not allowed on the channel, or one that is. -/
theorem evmkReplacesTheMask : Obligations.EvmkReplacesTheMask := by
  intro ch c s hfront
  refine ⟨fun hargs => ⟨fields_evmk_empty hfront.2, fields_evmk_mask hfront.2 hargs⟩, exec_evmk_read hfront, ?_⟩
  intro m hfields
  refine ⟨fun hbad => exec_evmk_refused hfront hfields (maskAllowed_eq_false_iff.2 hbad), fun hgood => ?_⟩
  have hallowed := maskAllowed_iff.2 hgood
  refine ⟨_, exec_evmk_replaced hfront hfields hallowed, rfl, ?_⟩
  simp only [chan_answer]
  have hother : ∀ ch', ch' ≠ ch →
      chan (updChan ch (fun k => { k with mask := BitVec.ofNat 32 m }) (taken ch s)) ch' = chan s ch' :=
    fun ch' hne => by rw [chan_updChan_ne hne, chan_taken_ne hne]
  refine ⟨fun ch' => ?_, hother, fun e => ?_⟩
  · by_cases hsame : ch' = ch
    · rw [hsame, chan_updChan]
      exact latches_taken ch s
    · rw [hother ch' hsame]
  · rw [chan_updChan]
    exact unmasked_ofNat m _ e

end Sys2Proof.Machine
end
